-- ==== Sys2Proof/Word.lean ====
section
/-! DEFINITION. The plain types the block is made of (00_scope.md R8, R10, R12, R14): bytes, binary32 patterns, the two
rails, the two contexts, pin and channel identifiers. -/

namespace Sys2Proof

/-- A byte: a wire byte, an NVM byte, an ASCII character (R14). -/
abbrev Byte := BitVec 8

/-- An `f32`: its IEEE 754 binary32 bit pattern (R14, R61). -/
abbrev F32 := BitVec 32

/-- A `u32` (R14): the words of the two channels and the PWM frequency. -/
abbrev U32 := BitVec 32

/-- A 12-bit ADC code, 0..4095 (R11 `ADC_BITS`, R13). -/
abbrev AdcCode := BitVec 12

/-- A response text: its ASCII bytes (R91). -/
abbrev Text := List Byte

/-- The two rails, `r ∈ {VDD, VPP}` (R1, R82). -/
inductive Rail where
  | vdd
  | vpp
  deriving DecidableEq, Repr, Inhabited

/-- The other rail (R126 `o`). -/
def Rail.other : Rail → Rail
  | .vdd => .vpp
  | .vpp => .vdd

/-- The two execution contexts (R8, R312). -/
inductive Ctx where
  | a
  | b
  deriving DecidableEq, Repr, Inhabited

/-- The other context. -/
def Ctx.other : Ctx → Ctx
  | .a => .b
  | .b => .a

/-- A pin id: `UNASSIGNED` or a number (R12; the range 0..254 is checked by WellFormed). -/
inductive Pin where
  | unassigned
  | num (n : Nat)
  deriving DecidableEq, Repr, Inhabited

/-- An ADC channel id: `UNASSIGNED` or a number (R12). -/
inductive Chan where
  | unassigned
  | num (n : Nat)
  deriving DecidableEq, Repr, Inhabited

/-- The serial-out shift register's three pins (R10 `SR_PINS`, R32). -/
structure SrPins where
  data  : Pin
  clock : Pin
  latch : Pin
  deriving DecidableEq, Repr, Inhabited

/-- The five VPP routing bits (R32, C2). -/
inductive RouteBit where
  | a9
  | a18
  | ce
  | oe
  | we
  deriving DecidableEq, Repr, Inhabited

/-- What the HOST supplies: one character (its ASCII byte) or `TIMEOUT` (R251). -/
inductive HostEvent where
  | char (c : Byte)
  | timeout
  deriving DecidableEq, Repr, Inhabited

/-- Who moves next: context A, context B (R8, R305 (d)) or the hardware reset (R330). The HOST and the ADC act through
what they supply (R13, R251). -/
inductive Move where
  | a
  | b
  | reset
  deriving DecidableEq, Repr, Inhabited

/-- The arithmetic operation that delivers a NaN: an argument of the free NaN pattern (log 10). -/
inductive NanOp where
  | add
  | sub
  | mul
  | div
  deriving DecidableEq, Repr, Inhabited

end Sys2Proof
end

