-- ==== Sys2Proof/Config.lean ====
section
/-! DEFINITION. What a build fixes (00_scope.md R10, R11, I20) and what the environment draws (R13, I1, I8). The build is
plain data, held in State so that a claim speaks of every build (log 6); the draws are opaque constants, so that nothing
can be proved about their values (log 2, log 4, log 10). -/

namespace Sys2Proof

/-- The build-time constants of one rail (R10). -/
structure RailParams where
  pwmPin       : Pin
  pwmFreq      : U32
  adcChannel   : Chan
  adcVref      : F32
  divider      : F32
  minDuty      : F32
  maxDuty      : F32
  slowStep     : F32
  fastStep     : F32
  farTol       : F32
  tol          : F32
  enPin        : Pin
  calReference : F32
  deriving DecidableEq, Repr, Inhabited

/-- The shift-register position of each routing bit (R10 `ROUTE_BIT[k]`, 0..7; D18). -/
structure RoutePositions where
  a9  : Fin 8
  a18 : Fin 8
  ce  : Fin 8
  oe  : Fin 8
  we  : Fin 8
  deriving DecidableEq, Repr, Inhabited

/-- The parameters of a build (R10, R11). `loopDelay` and `dispatchTimeout` are the two time values, which no rule reads
(R11, R353). -/
structure Build where
  vdd             : RailParams
  vpp             : RailParams
  vddOnVppPin     : Pin
  srPins          : SrPins
  routeBit        : RoutePositions
  adcFullScale    : Nat
  adcAvgSamples   : Nat
  nvmSize         : Nat
  loopDelay       : Nat
  dispatchTimeout : Nat
  deriving DecidableEq, Repr, Inhabited

/-- The constants of one rail. -/
def Build.rail (b : Build) : Rail → RailParams
  | .vdd => b.vdd
  | .vpp => b.vpp

/-- The offset of each rail's calibration record (R11, R66, D16: the spec's choice). -/
def Config.calBase : Rail → Nat
  | .vdd => 0x00
  | .vpp => 0x08

/-- The build this machine was made with: open (R10, R11, I20; log 6). -/
opaque Config.build : Build

/-- The code of the n-th sample the environment's listed codes do not cover: a draw (R13, I1; log 4). -/
opaque Config.adcDraw : Nat → AdcCode

/-- Who moves at the n-th step when the listed moves have run out: a draw (R305 (d), I8; log 2). -/
opaque Config.moveDraw : Nat → Move

/-- The bit pattern an operation chooses for a NaN result; `f32Nan` makes it a NaN (R15 states no pattern; log 10). -/
opaque Config.nanPattern : NanOp → F32 → F32 → BitVec 32

/-- The test build TB of 95_test_vectors.md section 0: data for tests only; no rule and no reset value uses it. -/
def Config.testBuild : Build :=
  let rail (pin chan en : Nat) (divider calRef : F32) : RailParams :=
    { pwmPin := .num pin, pwmFreq := 50000#32, adcChannel := .num chan, adcVref := 0x40800000#32
      divider := divider, minDuty := 0x41200000#32, maxDuty := 0x42B40000#32, slowStep := 0x3F000000#32
      fastStep := 0x40A00000#32, farTol := 0x3F000000#32, tol := 0x3E800000#32, enPin := .num en
      calReference := calRef }
  { vdd := rail 10 0 20 0x40800000#32 0x40A00000#32
    vpp := rail 11 1 21 0x41000000#32 0x41400000#32
    vddOnVppPin := .num 7
    srPins := ⟨.num 3, .num 4, .num 5⟩
    routeBit := ⟨0, 1, 2, 3, 4⟩
    adcFullScale := 4096, adcAvgSamples := 4, nvmSize := 16
    loopDelay := 0, dispatchTimeout := 0 }

end Sys2Proof
end

