-- ==== Sys2Proof/Machine/F32.lean ====
section
/-! DEFINITION. Binary32 arithmetic (00_scope.md R14, R15, D1): every `+ - * /` computes the exact result and rounds it
once, to nearest, ties to even. A finite value is an integer count of units of 2^-149, the least positive binary32 value,
so that sums, products and quotients are exact integers or rationals before the one rounding. The bit pattern of a NaN
result is free (log 10); the signs of zero results and the infinities follow IEEE 754 (PRESUMED, log 11). -/

namespace Sys2Proof.Machine

/-- The sign, bit 31 (R61). -/
def f32Sign (x : F32) : Bool := x.getLsbD 31

/-- The biased exponent, bits 30:23 (R61). -/
def f32Exp (x : F32) : Nat := x.toNat / 2 ^ 23 % 256

/-- The fraction, bits 22:0 (R61). -/
def f32Frac (x : F32) : Nat := x.toNat % 2 ^ 23

def f32IsNaN (x : F32) : Bool := f32Exp x == 255 && f32Frac x != 0

def f32IsInf (x : F32) : Bool := f32Exp x == 255 && f32Frac x == 0

def f32Finite (x : F32) : Bool := f32Exp x != 255

/-- The magnitude in units of 2^-149. An infinity gets the first value past the largest finite one, so that comparisons
need no case for it. -/
def f32Mag (x : F32) : Nat :=
  if f32Exp x = 0 then f32Frac x else (f32Frac x + 2 ^ 23) <<< (f32Exp x - 1)

/-- The signed value in units of 2^-149: exact for a finite `x`. -/
def f32Val (x : F32) : Int := if f32Sign x then -(f32Mag x : Int) else (f32Mag x : Int)

/-- The pattern with a sign and the 31 magnitude bits `m`. -/
def f32OfMag (neg : Bool) (m : Nat) : F32 := BitVec.ofNat 32 (if neg then m + 2 ^ 31 else m)

def f32Zero (neg : Bool) : F32 := f32OfMag neg 0

/-- The magnitude bits of an infinity. -/
def f32InfMag : Nat := 0x7F800000

def f32Inf (neg : Bool) : F32 := f32OfMag neg f32InfMag

/-- A NaN of no stated pattern (R15; log 10): any NaN may come out. -/
def f32Nan (op : NanOp) (a b : F32) : F32 :=
  let p := Config.nanPattern op a b
  if f32IsNaN p then p else 0x7FC00000#32

/-- `q / d` to the nearest integer, ties to the even one (R15). -/
def roundHalfEven (q d : Nat) : Nat :=
  let h := q / d
  let r := q % d
  if 2 * r < d then h else if 2 * r = d then h + h % 2 else h + 1

/-- The binary32 value nearest to `n / d` units of 2^-149, ties to even, with the given sign; past the largest finite
value an infinity (R15). `k` is the exponent of the last place kept. -/
def f32Round (neg : Bool) (n d : Nat) : F32 :=
  let k := Nat.log2 (n / d) - 23
  f32OfMag neg (min (k * 2 ^ 23 + roundHalfEven n (d <<< k)) f32InfMag)

/-- The same with the sign bit inverted. -/
def f32Neg (x : F32) : F32 := f32OfMag (!f32Sign x) (x.toNat % 2 ^ 31)

/-- `a + b` (R15). -/
def f32Add (a b : F32) : F32 :=
  if f32IsNaN a || f32IsNaN b then f32Nan .add a b
  else if f32IsInf a then
    if f32IsInf b && (f32Sign a != f32Sign b) then f32Nan .add a b else a
  else if f32IsInf b then b
  else
    let v := f32Val a + f32Val b
    if v = 0 then f32Zero (f32Sign a && f32Sign b) else f32Round (decide (v < 0)) v.natAbs 1

/-- `a - b` (R15). -/
def f32Sub (a b : F32) : F32 :=
  if f32IsNaN a || f32IsNaN b then f32Nan .sub a b else f32Add a (f32Neg b)

/-- `a * b` (R15). -/
def f32Mul (a b : F32) : F32 :=
  let neg := f32Sign a != f32Sign b
  if f32IsNaN a || f32IsNaN b then f32Nan .mul a b
  else if f32IsInf a || f32IsInf b then
    if f32Mag a = 0 || f32Mag b = 0 then f32Nan .mul a b else f32Inf neg
  else f32Round neg (f32Mag a * f32Mag b) (2 ^ 149)

/-- `a / b` (R15). -/
def f32Div (a b : F32) : F32 :=
  let neg := f32Sign a != f32Sign b
  if f32IsNaN a || f32IsNaN b then f32Nan .div a b
  else if f32IsInf a then
    if f32IsInf b then f32Nan .div a b else f32Inf neg
  else if f32IsInf b then f32Zero neg
  else if f32Mag b = 0 then
    if f32Mag a = 0 then f32Nan .div a b else f32Inf neg
  else f32Round neg (f32Mag a * 2 ^ 149) (f32Mag b)

/-- `f32(n)`: exact below 2^24 (R15), rounded to nearest above (PRESUMED, log 11). -/
def f32OfNat (n : Nat) : F32 := f32Round false (n * 2 ^ 149) 1

/-- `a < b`: false with a NaN operand (R15). -/
def f32Lt (a b : F32) : Bool := !f32IsNaN a && !f32IsNaN b && decide (f32Val a < f32Val b)

/-- `a <= b`: false with a NaN operand (R15). -/
def f32Le (a b : F32) : Bool := !f32IsNaN a && !f32IsNaN b && decide (f32Val a ≤ f32Val b)

/-- `a > b` (R15). -/
def f32Gt (a b : F32) : Bool := f32Lt b a

/-- `a >= b` (R15). -/
def f32Ge (a b : F32) : Bool := f32Le b a

/-- `a == b`: false with a NaN operand, and `-0.0 == +0.0` (R15). -/
def f32Eq (a b : F32) : Bool := !f32IsNaN a && !f32IsNaN b && decide (f32Val a = f32Val b)

/-- `min(a, b)` is `b if b < a else a` (R15). -/
def f32Min (a b : F32) : F32 := if f32Lt b a then b else a

/-- `max(a, b)` is `b if b > a else a` (R15). -/
def f32Max (a b : F32) : F32 := if f32Gt b a then b else a

/-- `clamp(x, lo, hi)` is `min(max(x, lo), hi)` (R15). -/
def f32Clamp (x lo hi : F32) : F32 := f32Min (f32Max x lo) hi

/-- The literals the rules write. -/
def f32_0 : F32 := 0x00000000#32
def f32_1 : F32 := 0x3F800000#32
def f32_100 : F32 := 0x42C80000#32
def f32_256 : F32 := 0x43800000#32

end Sys2Proof.Machine
end

