-- ==== Sys2Proof/Syntax.lean ====
section
/-! DEFINITION. The operations as syntax (30_encoding.md R80 to R95): one constructor per row of spec/opcode_table.json.
Wire commands keep their parameter bytes as they arrive; internal operations carry typed operands (R93). -/

namespace Sys2Proof

/-- `RegulatorConfig`, the eleven fields of R21 in the order of R95. -/
structure RegulatorConfig where
  pin      : Pin
  freq     : U32
  channel  : Chan
  vref     : F32
  divider  : F32
  minDuty  : F32
  maxDuty  : F32
  slowStep : F32
  fastStep : F32
  farTol   : F32
  tol      : F32
  deriving DecidableEq, Repr, Inhabited

/-- `UNCONFIGURED` (R21): nothing assigned, every `f32` field `0.0`. -/
def RegulatorConfig.unconfigured : RegulatorConfig :=
  { pin := .unassigned, freq := 0#32, channel := .unassigned, vref := 0#32, divider := 0#32, minDuty := 0#32
    maxDuty := 0#32, slowStep := 0#32, fastStep := 0#32, farTol := 0#32, tol := 0#32 }

/-- `RailConfig` (R95). `onVppPin` is read only for VDD, `srPins` only for VPP. -/
structure RailConfig where
  reg      : RegulatorConfig
  enPin    : Pin
  onVppPin : Pin
  srPins   : SrPins
  deriving DecidableEq, Repr, Inhabited

/-- The operand of an internal operation: a typed value, not bits (R93). -/
inductive Operand where
  | none
  | f32 (v : F32)
  | bool (b : Bool)
  | u32 (w : U32)
  | reg (cfg : RegulatorConfig)
  | rail (rc : RailConfig)
  deriving DecidableEq, Repr, Inhabited

/-- An internal operation as issued: its selector byte and its operand (R80 format I). -/
structure Issue where
  selector : Byte
  arg      : Operand
  deriving DecidableEq, Repr, Inhabited

/-- What a context hands to the decoder: the bytes of a wire command (R88) or an internal issue (R80). -/
inductive Code where
  | wire (bytes : List Byte)
  | internal (is : Issue)
  deriving DecidableEq, Repr, Inhabited

/-- The operations of the block: one constructor per row of the opcode table (R83, R84). -/
inductive Instr where
  -- wire commands (R83): the rail bit and the parameter bytes
  | nop
  | enable (r : Rail) (p1 : Byte)
  | setV (r : Rail) (p1 p2 : Byte)
  | getV (r : Rail)
  | getDuty (r : Rail)
  | getCal (r : Rail)
  | initCal (r : Rail)
  | saveCal (r : Rail) (p1 p2 : Byte)
  | setA9 (p1 : Byte)
  | setA18 (p1 : Byte)
  | setCe (p1 : Byte)
  | setOe (p1 : Byte)
  | setWe (p1 : Byte)
  | setVddOnVpp (p1 : Byte)
  -- regulator operations (R84)
  | regConfigure (r : Rail) (cfg : RegulatorConfig)
  | regStart (r : Rail)
  | regStop (r : Rail)
  | regSetTarget (r : Rail) (v : F32)
  | regAdjust (r : Rail)
  | regGetCal (r : Rail)
  | regSetCal (r : Rail) (v : F32)
  | regGetTarget (r : Rail)
  | regGetV (r : Rail)
  | regGetDuty (r : Rail)
  | regIsRunning (r : Rail)
  -- rail operations
  | railConfigure (r : Rail) (rc : RailConfig)
  | railOn (r : Rail)
  | railOff (r : Rail)
  | railIsOn (r : Rail)
  | railToggle (r : Rail)
  | railInitCal (r : Rail) (ref : F32)
  | railSaveCal (r : Rail) (m : F32)
  | railLoadCal (r : Rail)
  | vppSetA9 (b : Bool)
  | vppSetA18 (b : Bool)
  | vppSetCe (b : Bool)
  | vppSetOe (b : Bool)
  | vppSetWe (b : Bool)
  | vddSetOnVpp (b : Bool)
  -- container operations
  | railsStart
  | railsStop
  | railsIsRunning
  -- sequencer operations
  | seqLaunch
  | seqStop
  | seqIsStopRequested
  | seqGetStatus
  | seqLock
  | seqUnlock
  | seqPutParam (w : U32)
  | seqGetParam
  deriving DecidableEq, Repr, Inhabited

end Sys2Proof
end

