-- ==== Sys2Proof/Machine/Operands.lean ====
section
/-! DEFINITION. Operand forms (30_encoding.md R92 to R101): bool and float parameters, float results, hex text and the
response texts (R91). -/

namespace Sys2Proof.Machine

/-- `Rail(R)` for bit 0 of a selector (R82). -/
def railOfBit (s : Byte) : Rail := if s.getLsbD 0 then .vpp else .vdd

/-- The rail bit of a selector (R81, R82). -/
def railBit : Rail → Byte
  | .vdd => 0#8
  | .vpp => 1#8

/-- `DecBool(b) = (b != 0x00)` (R96). -/
def decBool (b : Byte) : Bool := b != 0#8

/-- The bool encode of R96. -/
def encBool (b : Bool) : Byte := if b then 0x01#8 else 0x00#8

/-- `DecFloat(i, f) = f32(i) + f32(f) / 100.0` (R99). -/
def decFloat (i f : Byte) : F32 := f32Add (f32OfNat i.toNat) (f32Div (f32OfNat f.toNat) f32_100)

/-- `EncFloat(v)` (R101): the fraction times 100 is rounded to the nearest integer, halves away from zero, exactly. -/
def encFloat (v : F32) : Byte × Byte :=
  if f32IsNaN v || !f32Gt v f32_0 then (0x00#8, 0x00#8)
  else if f32Ge v f32_256 then (0xFF#8, 0x63#8)
  else
    let m := f32Mag v
    let i := m / 2 ^ 149
    let f := (2 * (100 * (m % 2 ^ 149)) + 2 ^ 149) / 2 ^ 150
    let i' := if f = 100 then i + 1 else i
    let f' := if f = 100 then 0 else f
    if i' = 256 then (0xFF#8, 0x63#8) else (BitVec.ofNat 8 i', BitVec.ofNat 8 f')

/-- The upper-case hex character of a nibble (R97). -/
def hexChar (n : Nat) : Byte := if n < 10 then BitVec.ofNat 8 (0x30 + n) else BitVec.ofNat 8 (0x41 + (n - 10))

/-- The value of a hex character of either case, or none for another character (R97). -/
def hexVal (c : Byte) : Option Nat :=
  let n := c.toNat
  if 0x30 ≤ n ∧ n ≤ 0x39 then some (n - 0x30)
  else if 0x41 ≤ n ∧ n ≤ 0x46 then some (n - 0x41 + 10)
  else if 0x61 ≤ n ∧ n ≤ 0x66 then some (n - 0x61 + 10)
  else none

/-- `HexPair(b)`: high nibble first (R98). -/
def hexPair (b : Byte) : Text := [hexChar (b.toNat / 16), hexChar (b.toNat % 16)]

/-- `UnHexPair(c1, c2)` for two hex characters, none otherwise (R98). -/
def unHexPair (c1 c2 : Byte) : Option Byte :=
  match hexVal c1, hexVal c2 with
  | some h, some l => some (BitVec.ofNat 8 (16 * h + l))
  | _, _ => none

/-- The bytes of an even run of hex characters, none if one is not a hex character (R253). -/
def unHexAll : Text → Option (List Byte)
  | [] => some []
  | [_] => none
  | c1 :: c2 :: cs =>
    match unHexPair c1 c2, unHexAll cs with
    | some b, some bs => some (b :: bs)
    | _, _ => none

/-- The text of a command's bytes (R89). -/
def hexText (bytes : List Byte) : Text := bytes.flatMap hexPair

/-- `"OK"` (R91). -/
def okText : Text := [0x4F#8, 0x4B#8]

/-- `"NOK"` (R91). -/
def nokText : Text := [0x4E#8, 0x4F#8, 0x4B#8]

/-- `"OK"` followed by the hex pairs of a float result (R91, R92). -/
def okFloatText (v : F32) : Text :=
  let p := encFloat v
  okText ++ hexPair p.1 ++ hexPair p.2

end Sys2Proof.Machine
end

