-- ==== Sys2Proof/WellFormed.lean ====
section
/-! DEFINITION. Well-formedness: a pin or channel number is 0..254 (00_scope.md R12), in every operand that carries one,
and the bounds a build must meet (R10, R11, 70_reset_and_hazards.md R337). The numeric fields of a configuration are not
part of it: an ill-formed configuration is a legal operand, which the operation refuses (40_regulator.md R121). -/

namespace Sys2Proof

/-- A pin id is `UNASSIGNED` or 0..254 (R12). -/
def Pin.wf : Pin → Bool
  | .unassigned => true
  | .num n => decide (n ≤ 254)

/-- A channel id is `UNASSIGNED` or 0..254 (R12). -/
def Chan.wf : Chan → Bool
  | .unassigned => true
  | .num n => decide (n ≤ 254)

/-- The three shift-register pins are pin ids (R32). -/
def SrPins.wf (p : SrPins) : Bool := p.data.wf && p.clock.wf && p.latch.wf

/-- The identifiers of a `RegulatorConfig` are in range (R21, R12). -/
def RegulatorConfig.wf (c : RegulatorConfig) : Bool := c.pin.wf && c.channel.wf

/-- The identifiers of a `RailConfig` are in range (R95, R12). -/
def RailConfig.wf (rc : RailConfig) : Bool := rc.reg.wf && rc.enPin.wf && rc.onVppPin.wf && rc.srPins.wf

/-- An operation is well formed when every pin and channel in its operand is (R12, R93). -/
def Instr.wf : Instr → Bool
  | .regConfigure _ cfg => cfg.wf
  | .railConfigure _ rc => rc.wf
  | .nop | .enable _ _ | .setV _ _ _ | .getV _ | .getDuty _ | .getCal _ | .initCal _ | .saveCal _ _ _ => true
  | .setA9 _ | .setA18 _ | .setCe _ | .setOe _ | .setWe _ | .setVddOnVpp _ => true
  | .regStart _ | .regStop _ | .regSetTarget _ _ | .regAdjust _ | .regGetCal _ | .regSetCal _ _ => true
  | .regGetTarget _ | .regGetV _ | .regGetDuty _ | .regIsRunning _ => true
  | .railOn _ | .railOff _ | .railIsOn _ | .railToggle _ | .railInitCal _ _ | .railSaveCal _ _ | .railLoadCal _ => true
  | .vppSetA9 _ | .vppSetA18 _ | .vppSetCe _ | .vppSetOe _ | .vppSetWe _ | .vddSetOnVpp _ => true
  | .railsStart | .railsStop | .railsIsRunning => true
  | .seqLaunch | .seqStop | .seqIsStopRequested | .seqGetStatus | .seqLock | .seqUnlock | .seqPutParam _ => true
  | .seqGetParam => true

/-- The identifiers of one rail's build constants are in range (R10, R12). -/
def RailParams.wf (p : RailParams) : Bool := p.pwmPin.wf && p.adcChannel.wf && p.enPin.wf

/-- The bounds of R11 (`1 <= ADC_AVG_SAMPLES <= 4096`, `NVM_SIZE >= 13`) and the range of every identifier (R12). -/
def Build.wf (b : Build) : Bool :=
  b.vdd.wf && b.vpp.wf && b.vddOnVppPin.wf && b.srPins.wf
    && decide (1 ≤ b.adcAvgSamples) && decide (b.adcAvgSamples ≤ 4096) && decide (13 ≤ b.nvmSize)

end Sys2Proof
end

