-- ==== Sys2Proof/Decode.lean ====
section
/-! DEFINITION. Decoding and encoding (30_encoding.md R80 to R95): the two selector maps as tables of rows in the order of
R83 and R84, the decoder over them, total and rejecting by name, and the encoder; the codec's frame verdict
(43_host_commands.md R270); and the reading of an opcode-table word for the host. -/

namespace Sys2Proof
open Machine

/-- Why the decoder rejects. -/
inductive DecodeError where
  /-- No bytes at all. -/
  | empty
  /-- A wire opcode of no row of R83: `NOK` (R86, R254). -/
  | unrecognizedOpcode
  /-- A wire command whose byte count is not `1 + P` (R87, R90). -/
  | wrongLength
  /-- An internal selector of no row of R84: `refuse(UnknownSelector)` (R86). -/
  | unknownSelector
  /-- An operand that is not of the row's type, or names a pin or channel outside 0..254: a model type error (R93, R12). -/
  | operandType
  deriving DecidableEq, Repr, Inhabited

/-- A row of R83: the selectors `s` with `s & mask = pattern`, and how the command is built from `Rail(R)` and its
parameter bytes. -/
structure WireRow where
  mask    : Byte
  pattern : Byte
  /-- `P`, the parameter byte count. -/
  params  : Nat
  /-- `Q`, the result byte count. -/
  results : Nat
  build   : Rail → List Byte → Option Instr

/-- The operand type of an internal row (R84, R93). -/
inductive OperandKind where
  | none
  | f32
  | bool
  | u32
  | reg
  | rail
  deriving DecidableEq, Repr, Inhabited

/-- A row of R84. -/
structure InternalRow where
  mask    : Byte
  pattern : Byte
  kind    : OperandKind
  build   : Rail → Operand → Option Instr

/-- A command with no parameter byte (R92). -/
def params0 (f : Rail → Instr) (r : Rail) : List Byte → Option Instr
  | [] => some (f r)
  | _ => none

/-- A command with one parameter byte (R92). -/
def params1 (f : Rail → Byte → Instr) (r : Rail) : List Byte → Option Instr
  | [p1] => some (f r p1)
  | _ => none

/-- A command with two parameter bytes (R92). -/
def params2 (f : Rail → Byte → Byte → Instr) (r : Rail) : List Byte → Option Instr
  | [p1, p2] => some (f r p1 p2)
  | _ => none

def operandNone (f : Rail → Instr) (r : Rail) : Operand → Option Instr
  | .none => some (f r)
  | _ => none

def operandF32 (f : Rail → F32 → Instr) (r : Rail) : Operand → Option Instr
  | .f32 v => some (f r v)
  | _ => none

def operandBool (f : Bool → Instr) (_ : Rail) : Operand → Option Instr
  | .bool b => some (f b)
  | _ => none

def operandU32 (f : U32 → Instr) (_ : Rail) : Operand → Option Instr
  | .u32 w => some (f w)
  | _ => none

def operandReg (f : Rail → RegulatorConfig → Instr) (r : Rail) : Operand → Option Instr
  | .reg c => some (f r c)
  | _ => none

def operandRail (f : Rail → RailConfig → Instr) (r : Rail) : Operand → Option Instr
  | .rail rc => some (f r rc)
  | _ => none

/-- The wire opcode map (R83), in its order. -/
def wireRows : List WireRow :=
  [ ⟨0xFF#8, 0x00#8, 0, 0, params0 fun _ => .nop⟩
  , ⟨0xFE#8, 0x02#8, 1, 0, params1 .enable⟩
  , ⟨0xFE#8, 0x04#8, 2, 0, params2 .setV⟩
  , ⟨0xFE#8, 0x06#8, 0, 2, params0 .getV⟩
  , ⟨0xFE#8, 0x08#8, 0, 2, params0 .getDuty⟩
  , ⟨0xFE#8, 0x0A#8, 0, 2, params0 .getCal⟩
  , ⟨0xFE#8, 0x0C#8, 0, 0, params0 .initCal⟩
  , ⟨0xFE#8, 0x0E#8, 2, 0, params2 .saveCal⟩
  , ⟨0xFF#8, 0x11#8, 1, 0, params1 fun _ => .setA9⟩
  , ⟨0xFF#8, 0x13#8, 1, 0, params1 fun _ => .setA18⟩
  , ⟨0xFF#8, 0x15#8, 1, 0, params1 fun _ => .setCe⟩
  , ⟨0xFF#8, 0x17#8, 1, 0, params1 fun _ => .setOe⟩
  , ⟨0xFF#8, 0x19#8, 1, 0, params1 fun _ => .setWe⟩
  , ⟨0xFF#8, 0x1A#8, 1, 0, params1 fun _ => .setVddOnVpp⟩ ]

/-- The regulator rows of the internal selector map (R84). -/
def regulatorRows : List InternalRow :=
  [ ⟨0xFE#8, 0x80#8, .reg, operandReg .regConfigure⟩
  , ⟨0xFE#8, 0x82#8, .none, operandNone .regStart⟩
  , ⟨0xFE#8, 0x84#8, .none, operandNone .regStop⟩
  , ⟨0xFE#8, 0x86#8, .f32, operandF32 .regSetTarget⟩
  , ⟨0xFE#8, 0x88#8, .none, operandNone .regAdjust⟩
  , ⟨0xFE#8, 0x8A#8, .none, operandNone .regGetCal⟩
  , ⟨0xFE#8, 0x8C#8, .f32, operandF32 .regSetCal⟩
  , ⟨0xFE#8, 0x8E#8, .none, operandNone .regGetTarget⟩
  , ⟨0xFE#8, 0x90#8, .none, operandNone .regGetV⟩
  , ⟨0xFE#8, 0x92#8, .none, operandNone .regGetDuty⟩
  , ⟨0xFE#8, 0x94#8, .none, operandNone .regIsRunning⟩ ]

/-- The rail rows of the internal selector map (R84). -/
def railRows : List InternalRow :=
  [ ⟨0xFE#8, 0xA0#8, .rail, operandRail .railConfigure⟩
  , ⟨0xFE#8, 0xA2#8, .none, operandNone .railOn⟩
  , ⟨0xFE#8, 0xA4#8, .none, operandNone .railOff⟩
  , ⟨0xFE#8, 0xA6#8, .none, operandNone .railIsOn⟩
  , ⟨0xFE#8, 0xA8#8, .none, operandNone .railToggle⟩
  , ⟨0xFE#8, 0xAA#8, .f32, operandF32 .railInitCal⟩
  , ⟨0xFE#8, 0xAC#8, .f32, operandF32 .railSaveCal⟩
  , ⟨0xFE#8, 0xAE#8, .none, operandNone .railLoadCal⟩
  , ⟨0xFF#8, 0xB1#8, .bool, operandBool .vppSetA9⟩
  , ⟨0xFF#8, 0xB3#8, .bool, operandBool .vppSetA18⟩
  , ⟨0xFF#8, 0xB5#8, .bool, operandBool .vppSetCe⟩
  , ⟨0xFF#8, 0xB7#8, .bool, operandBool .vppSetOe⟩
  , ⟨0xFF#8, 0xB9#8, .bool, operandBool .vppSetWe⟩
  , ⟨0xFF#8, 0xBA#8, .bool, operandBool .vddSetOnVpp⟩ ]

/-- The container and sequencer rows of the internal selector map (R84). -/
def containerRows : List InternalRow :=
  [ ⟨0xFF#8, 0xC0#8, .none, operandNone fun _ => .railsStart⟩
  , ⟨0xFF#8, 0xC2#8, .none, operandNone fun _ => .railsStop⟩
  , ⟨0xFF#8, 0xC4#8, .none, operandNone fun _ => .railsIsRunning⟩
  , ⟨0xFF#8, 0xD0#8, .none, operandNone fun _ => .seqLaunch⟩
  , ⟨0xFF#8, 0xD2#8, .none, operandNone fun _ => .seqStop⟩
  , ⟨0xFF#8, 0xD4#8, .none, operandNone fun _ => .seqIsStopRequested⟩
  , ⟨0xFF#8, 0xD6#8, .none, operandNone fun _ => .seqGetStatus⟩
  , ⟨0xFF#8, 0xD8#8, .none, operandNone fun _ => .seqLock⟩
  , ⟨0xFF#8, 0xDA#8, .none, operandNone fun _ => .seqUnlock⟩
  , ⟨0xFF#8, 0xDC#8, .u32, operandU32 .seqPutParam⟩
  , ⟨0xFF#8, 0xDE#8, .none, operandNone fun _ => .seqGetParam⟩ ]

/-- The internal selector map (R84), in its order. -/
def internalRows : List InternalRow := regulatorRows ++ railRows ++ containerRows

/-- A pattern matches a selector when they agree on the mask's bits (R81). -/
def selects (mask pattern s : Byte) : Bool := s &&& mask == pattern

/-- The wire row of an opcode byte (R85). -/
def wireRow (s : Byte) : Option WireRow := wireRows.find? fun row => selects row.mask row.pattern s

/-- The internal row of a selector byte (R85). -/
def internalRow (s : Byte) : Option InternalRow := internalRows.find? fun row => selects row.mask row.pattern s

/-- The wire command of some bytes (R83, R87, R88): exactly `1 + P` of them. -/
def decodeWire : List Byte → Except DecodeError Instr
  | [] => .error .empty
  | s :: ps =>
    match wireRow s with
    | none => .error .unrecognizedOpcode
    | some row =>
      match row.build (railOfBit s) ps with
      | some i => .ok i
      | none => .error .wrongLength

/-- The internal operation of a selector and an operand (R84, R93). -/
def decodeInternal (is : Issue) : Except DecodeError Instr :=
  match internalRow is.selector with
  | none => .error .unknownSelector
  | some row =>
    match row.build (railOfBit is.selector) is.arg with
    | some i => if i.wf then .ok i else .error .operandType
    | none => .error .operandType

/-- The decoder (R85). -/
def decode : Code → Except DecodeError Instr
  | .wire bytes => decodeWire bytes
  | .internal is => decodeInternal is

/-- A per-rail selector: its pattern with `R` set for VPP (R81, R82). -/
def perRail (pattern : Byte) (r : Rail) : Byte := pattern ||| railBit r

/-- The encoder: the words of an operation (R81, R83, R84, R88, R93). -/
def encode : Instr → Code
  | .nop => .wire [0x00#8]
  | .enable r p1 => .wire [perRail 0x02#8 r, p1]
  | .setV r p1 p2 => .wire [perRail 0x04#8 r, p1, p2]
  | .getV r => .wire [perRail 0x06#8 r]
  | .getDuty r => .wire [perRail 0x08#8 r]
  | .getCal r => .wire [perRail 0x0A#8 r]
  | .initCal r => .wire [perRail 0x0C#8 r]
  | .saveCal r p1 p2 => .wire [perRail 0x0E#8 r, p1, p2]
  | .setA9 p1 => .wire [0x11#8, p1]
  | .setA18 p1 => .wire [0x13#8, p1]
  | .setCe p1 => .wire [0x15#8, p1]
  | .setOe p1 => .wire [0x17#8, p1]
  | .setWe p1 => .wire [0x19#8, p1]
  | .setVddOnVpp p1 => .wire [0x1A#8, p1]
  | .regConfigure r cfg => .internal ⟨perRail 0x80#8 r, .reg cfg⟩
  | .regStart r => .internal ⟨perRail 0x82#8 r, .none⟩
  | .regStop r => .internal ⟨perRail 0x84#8 r, .none⟩
  | .regSetTarget r v => .internal ⟨perRail 0x86#8 r, .f32 v⟩
  | .regAdjust r => .internal ⟨perRail 0x88#8 r, .none⟩
  | .regGetCal r => .internal ⟨perRail 0x8A#8 r, .none⟩
  | .regSetCal r v => .internal ⟨perRail 0x8C#8 r, .f32 v⟩
  | .regGetTarget r => .internal ⟨perRail 0x8E#8 r, .none⟩
  | .regGetV r => .internal ⟨perRail 0x90#8 r, .none⟩
  | .regGetDuty r => .internal ⟨perRail 0x92#8 r, .none⟩
  | .regIsRunning r => .internal ⟨perRail 0x94#8 r, .none⟩
  | .railConfigure r rc => .internal ⟨perRail 0xA0#8 r, .rail rc⟩
  | .railOn r => .internal ⟨perRail 0xA2#8 r, .none⟩
  | .railOff r => .internal ⟨perRail 0xA4#8 r, .none⟩
  | .railIsOn r => .internal ⟨perRail 0xA6#8 r, .none⟩
  | .railToggle r => .internal ⟨perRail 0xA8#8 r, .none⟩
  | .railInitCal r ref => .internal ⟨perRail 0xAA#8 r, .f32 ref⟩
  | .railSaveCal r m => .internal ⟨perRail 0xAC#8 r, .f32 m⟩
  | .railLoadCal r => .internal ⟨perRail 0xAE#8 r, .none⟩
  | .vppSetA9 b => .internal ⟨0xB1#8, .bool b⟩
  | .vppSetA18 b => .internal ⟨0xB3#8, .bool b⟩
  | .vppSetCe b => .internal ⟨0xB5#8, .bool b⟩
  | .vppSetOe b => .internal ⟨0xB7#8, .bool b⟩
  | .vppSetWe b => .internal ⟨0xB9#8, .bool b⟩
  | .vddSetOnVpp b => .internal ⟨0xBA#8, .bool b⟩
  | .railsStart => .internal ⟨0xC0#8, .none⟩
  | .railsStop => .internal ⟨0xC2#8, .none⟩
  | .railsIsRunning => .internal ⟨0xC4#8, .none⟩
  | .seqLaunch => .internal ⟨0xD0#8, .none⟩
  | .seqStop => .internal ⟨0xD2#8, .none⟩
  | .seqIsStopRequested => .internal ⟨0xD4#8, .none⟩
  | .seqGetStatus => .internal ⟨0xD6#8, .none⟩
  | .seqLock => .internal ⟨0xD8#8, .none⟩
  | .seqUnlock => .internal ⟨0xDA#8, .none⟩
  | .seqPutParam w => .internal ⟨0xDC#8, .u32 w⟩
  | .seqGetParam => .internal ⟨0xDE#8, .none⟩

/-- The codec's verdict on a whole frame (R270). -/
inductive FrameVerdict where
  | reject
  | nok
  | accept (bytes : List Byte)
  deriving DecidableEq, Repr, Inhabited

/-- `FrameVerdict(t)` (R270): the checks in its order. -/
def frameVerdict : Text → FrameVerdict
  | c1 :: c2 :: cs =>
    match unHexPair c1 c2 with
    | none => .reject
    | some s =>
      match wireRow s with
      | none => .nok
      | some row =>
        if cs.length ≠ 2 * row.params then .nok
        else
          match unHexAll cs with
          | none => .nok
          | some ps => .accept (s :: ps)
  | _ => .reject

/-- The zero of an operand type: what an opcode-table row that gives its operand no bits stands for (log 14). -/
def zeroOperand : OperandKind → Operand
  | .none => .none
  | .f32 => .f32 0#32
  | .bool => .bool false
  | .u32 => .u32 0#32
  | .reg => .reg .unconfigured
  | .rail => .rail ⟨.unconfigured, .unassigned, .unassigned, ⟨.unassigned, .unassigned, .unassigned⟩⟩

/-- Byte `k` of a table word: the selector is byte 0, parameter byte `k` is byte `k` (R88). -/
def tableByte (nbits w k : Nat) : Byte := BitVec.ofNat 8 (w % 2 ^ nbits / 2 ^ (8 * k))

/-- The code an opcode-table word of `nbits` bits stands for: a wire command with its parameter bytes, zero above
`nbits`, or an internal selector with the zero of its operand type (R80; log 14). -/
def tableCode (nbits w : Nat) : Code :=
  let s := tableByte nbits w 0
  match wireRow s, internalRow s with
  | some row, _ => .wire (s :: (List.range row.params).map fun k => tableByte nbits w (k + 1))
  | none, some row => .internal ⟨s, zeroOperand row.kind⟩
  | none, none => .wire [s]

/-- The operation the decoder reads from an opcode-table word. -/
def decodeTableWord (nbits w : Nat) : Option Instr :=
  match decode (tableCode nbits w) with
  | .ok i => some i
  | .error _ => none

end Sys2Proof
end

