-- ==== Sys2Proof/Machine/Flags.lean ====
section
/-! DEFINITION. The conditions and the computations the flags and the duty depend on (40_regulator.md R121 to R125). They
read a configuration and numbers only. -/

namespace Sys2Proof.Machine

/-- `WF(c)` (R121): the numeric fields only. -/
def cfgWF (c : RegulatorConfig) : Bool :=
  f32Finite c.vref && f32Finite c.divider && f32Finite c.minDuty && f32Finite c.maxDuty
    && f32Finite c.slowStep && f32Finite c.fastStep && f32Finite c.farTol && f32Finite c.tol
    && f32Gt c.vref f32_0 && f32Gt c.divider f32_0
    && f32Le f32_0 c.minDuty && f32Le c.minDuty c.maxDuty && f32Le c.maxDuty f32_100
    && f32Ge c.slowStep f32_0 && f32Ge c.fastStep f32_0
    && f32Le f32_0 c.tol && f32Le c.tol f32_1
    && f32Le f32_0 c.farTol && f32Le c.farTol f32_1

/-- `Configured(c)` (R123). -/
def configured (c : RegulatorConfig) : Bool :=
  c.pin != .unassigned && c.freq != 0#32 && c.channel != .unassigned

/-- The four values of `Bands(t, c)` (R122). -/
structure Bands where
  tMin : F32
  tMax : F32
  fMin : F32
  fMax : F32
  deriving DecidableEq, Repr, Inhabited

/-- `Bands(t, c)` (R122): the far bounds multiply, they do not add. -/
def bandsOf (t : F32) (c : RegulatorConfig) : Bands :=
  let tMin := f32Mul t (f32Sub f32_1 c.tol)
  let tMax := f32Mul t (f32Add f32_1 c.tol)
  { tMin := tMin, tMax := tMax
    fMin := f32Mul tMin (f32Sub f32_1 c.farTol)
    fMax := f32Mul tMax (f32Add f32_1 c.farTol) }

/-- `StepDuty` (R125): the unclamped new duty, the conditions in the written order. -/
def stepDuty (actual : F32) (w : Bands) (d0 : F32) (c : RegulatorConfig) : F32 :=
  if f32Lt actual w.fMin then f32Add d0 c.fastStep
  else if f32Gt actual w.fMax then f32Sub d0 c.fastStep
  else if f32Lt actual w.tMin then f32Add d0 c.slowStep
  else if f32Gt actual w.tMax then f32Sub d0 c.slowStep
  else d0

/-- Steps (3) and (4) of the adjust: the step, clamped into the duty bounds (R130). -/
def newDuty (actual target d0 : F32) (c : RegulatorConfig) : F32 :=
  f32Clamp (stepDuty actual (bandsOf target c) d0 c) c.minDuty c.maxDuty

/-- The conversion of a sum of codes to the uncalibrated voltage (R124). -/
def uncalOf (b : Build) (c : RegulatorConfig) (sum : Nat) : F32 :=
  let avg := f32Div (f32OfNat sum) (f32OfNat b.adcAvgSamples)
  let vadc := f32Div (f32Mul avg c.vref) (f32OfNat b.adcFullScale)
  f32Mul vadc c.divider

/-- A reconfigure stops a running regulator when the pin or the reference voltage changes (R126). -/
def stopsOnConfigure (running : Bool) (old new : RegulatorConfig) : Bool :=
  running && (new.pin != old.pin || !f32Eq new.vref old.vref)

/-- All three shift-register pins are assigned (R32, R169). -/
def srAssigned (p : SrPins) : Bool := p.data != .unassigned && p.clock != .unassigned && p.latch != .unassigned

end Sys2Proof.Machine
end

