-- ==== Sys2Proof/Machine/State.lean ====
section
/-! DEFINITION. The state as plain data (10_state.md R20 to R45), the reasons a step can stop, and the state after
reset. -/

namespace Sys2Proof.Machine

/-- `REG[r]`: the configuration file and the five data registers (R21 to R26, R41). -/
structure RegState where
  cfg      : RegulatorConfig
  target   : F32
  measured : F32
  duty     : F32
  cal      : F32
  running  : Bool
  deriving DecidableEq, Repr, Inhabited

/-- `PWM[r]`: the pulse output as the block last drove it (R27). -/
structure Pwm where
  pin   : Pin
  freq  : U32
  duty  : F32
  armed : Bool
  deriving DecidableEq, Repr, Inhabited

/-- `RAIL[VDD]` (R29 to R31). -/
structure VddRail where
  enPin    : Pin
  enabled  : Bool
  onVppPin : Pin
  onVpp    : Bool
  deriving DecidableEq, Repr, Inhabited

/-- The five routing bits (R32). -/
structure Route where
  a9  : Bool
  a18 : Bool
  ce  : Bool
  oe  : Bool
  we  : Bool
  deriving DecidableEq, Repr, Inhabited

/-- `RAIL[VPP]` (R29, R30, R32). -/
structure VppRail where
  enPin   : Pin
  enabled : Bool
  srPins  : SrPins
  route   : Route
  deriving DecidableEq, Repr, Inhabited

/-- `CoreStatus` (R33). -/
inductive CoreStatus where
  | stopped
  | starting
  | running
  | stopping
  deriving DecidableEq, Repr, Inhabited

/-- Context B's position in the maintenance loop (R34). -/
inductive Phase where
  | idle
  | entry
  | check
  | adjVdd
  | sleep1
  | adjVpp
  | sleep2
  | exit
  deriving DecidableEq, Repr, Inhabited

/-- `SEQ` (R33, R34). -/
structure Seq where
  status : CoreStatus
  phase  : Phase
  deriving DecidableEq, Repr, Inhabited

/-- `WAIT[c]`: the blocking operation a context is inside (R37). -/
inductive Wait where
  | none
  | launch
  | stop
  | lock
  | put (w : U32)
  | get
  deriving DecidableEq, Repr, Inhabited

/-- An operation's result (R17). -/
inductive Result where
  /-- `-` -/
  | nothing
  | bool (b : Bool)
  | f32 (v : F32)
  | status (c : CoreStatus)
  | u32 (w : U32)
  /-- The sentinel of `SEQ_GET_PARAM`, distinct from every word (R219). -/
  | noValue
  deriving DecidableEq, Repr, Inhabited

/-- The reasons of `refuse` (R303). -/
inductive RefuseReason where
  | illFormedConfig
  | sharedPwmPin
  | nanOperand
  | unassignedChannel
  | contextViolation
  | unlockNotOwner
  | unknownSelector
  | nvmRange
  deriving DecidableEq, Repr, Inhabited

/-- The boot sequence's operations, steps 1 to 6 (R335). -/
inductive BootStep where
  | configureVdd
  | configureVpp
  | loadVdd
  | loadVpp
  | start
  | launch
  deriving DecidableEq, Repr, Inhabited

/-- Context A's position (R44): in the boot sequence (R335) or in the dispatcher loop (R250 to R255). -/
inductive APos where
  | boot (k : BootStep)
  /-- Waiting for the first character of an opcode (R252). -/
  | opcodeFirst
  /-- The first of the two opcode characters has been read (R252). -/
  | opcodeSecond (c1 : Byte)
  /-- Reading the parameter characters of opcode `s`; `cs` are those read so far (R253). -/
  | params (s : Byte) (cs : Text)
  /-- A command's bytes are complete; its handler is the next step (R255). -/
  | handler (bytes : List Byte)
  deriving DecidableEq, Repr, Inhabited

/-- What belongs to one context: its wait state (R37), whether it is `stuck` (R16, R216), the result its last operation
returned (R17; log 9), and the internal operations it has still to issue (R80, R84; log 12). -/
structure CtxState where
  wait   : Wait
  stuck  : Bool
  result : Result
  prog   : List Issue
  deriving DecidableEq, Repr, Inhabited

/-- What the environment supplies: the HOST's events (R251), the next moves (R305 (d), I8; log 2) and the ADC's next
codes (R13; log 4), each with the index of its opaque draw. -/
structure Env where
  host    : List HostEvent
  sched   : List Move
  tick    : Nat
  adc     : List AdcCode
  adcTick : Nat
  deriving DecidableEq, Repr, Inhabited

/-- The block's state (R20). -/
structure State where
  /-- The build's parameters (R10, R11); no step writes them (log 6). -/
  build     : Build
  regVdd    : RegState
  regVpp    : RegState
  pwmVdd    : Pwm
  pwmVpp    : Pwm
  railVdd   : VddRail
  railVpp   : VppRail
  seq       : Seq
  /-- `MUTEX.owner` (R35). -/
  mutex     : Option Ctx
  /-- `FIFO[AtoB]` (R36). -/
  fifoAtoB  : Option U32
  /-- `FIFO[BtoA]` (R36). -/
  fifoBtoA  : Option U32
  /-- The listed bytes of `NVM` (R38), in canonical form; an unlisted byte reads as `nvmDefault` (log 7). -/
  nvm       : List Host.Cell
  a         : CtxState
  b         : CtxState
  /-- Context A's position (R44). -/
  pos       : APos
  /-- `OUT` (R39). -/
  out       : List Text
  /-- The reasons of every `refuse` so far, in order; `REFUSED` is that there is one (R40; log 1). -/
  refusals  : List RefuseReason
  /-- The context that issues the operation under way (R306; log 12). -/
  issuer    : Ctx
  env       : Env
  deriving DecidableEq, Repr, Inhabited

/-- Why the machine stops. -/
inductive Fault where
  /-- Raised by `step`: neither context can ever take a step again, and A is not waiting for the HOST (R16 `stuck`, R216,
  R346, I11, I12). Safe: the block hangs there. -/
  | deadlock
  deriving DecidableEq, Repr, Inhabited

/-- Why the model gives no next state. The spec's own `refuse(reason)` is no `Refusal`: it marks the run (R40; log 1). -/
inductive Refusal where
  /-- Raised by `exec` for an operation that has no meaning yet. Safe. -/
  | notModelled (mnemonic : String)
  /-- Raised by `step` for an issue whose operand is not of its row's type: "a model type error, not a runtime event"
  (R93, R12; log 13). Safe. -/
  | operandType
  deriving DecidableEq, Repr, Inhabited

/-- What an NVM byte that is not listed reads as (I6 leaves it open; DESIGN CHOICE 0xFF, log 7). -/
def nvmDefault : Byte := 0xFF#8

/-- A context at reset: no operation in flight (R45, R339), and nothing to issue (log 8). -/
def CtxState.reset : CtxState := { wait := .none, stuck := false, result := .nothing, prog := [] }

/-- A regulator at reset (R45). -/
def RegState.reset : RegState :=
  { cfg := .unconfigured, target := 0#32, measured := 0#32, duty := 0#32, cal := 0#32, running := false }

/-- A pulse output at reset (R45). -/
def Pwm.reset : Pwm := { pin := .unassigned, freq := 0#32, duty := 0#32, armed := false }

/-- All five routing bits clear (R45, R161). -/
def Route.clear : Route := { a9 := false, a18 := false, ce := false, oe := false, we := false }

/-- The state after reset of a build `b` whose NVM holds `nvm`, in an environment `env` (R45, R330 to R333). -/
def State.resetOf (b : Build) (nvm : List Host.Cell) (env : Env) : State :=
  { build := b
    regVdd := .reset, regVpp := .reset
    pwmVdd := .reset, pwmVpp := .reset
    railVdd := { enPin := .unassigned, enabled := false, onVppPin := .unassigned, onVpp := false }
    railVpp := { enPin := .unassigned, enabled := false, srPins := ⟨.unassigned, .unassigned, .unassigned⟩
                 route := .clear }
    seq := { status := .stopped, phase := .idle }
    mutex := none, fifoAtoB := none, fifoBtoA := none
    nvm := nvm
    a := .reset, b := .reset
    pos := .boot .configureVdd
    out := [], refusals := []
    issuer := .a
    env := env }

/-- The environment that has listed nothing: every move and every ADC code is a draw, and the HOST supplies nothing. -/
def Env.initial : Env := { host := [], sched := [], tick := 0, adc := [], adcTick := 0 }

/-- The machine right after reset: the open build, no NVM byte listed (R45; log 6, log 7, log 8). -/
def State.reset : State := .resetOf Config.build [] .initial

end Sys2Proof.Machine
end

