-- ==== Sys2Proof/Machine/Ops.lean ====
section
/-! DEFINITION. The named operations over the state: accessors, the NVM and its records (20_memory.md), ADC sampling, the
mutex (R72), refusal (R40), and how an operation's outcome reaches its issuer. The block has no exceptions: nothing is
saved and nothing transfers control on a failure (60_exceptions.md R300, R307, R308); the shared operations that stand in
that place are `State.refuse`, `Outcome.commit` and `State.hardReset`. -/

namespace Sys2Proof.Machine

/-! ### Accessors -/

/-- `REG[r]`. -/
def State.reg (s : State) : Rail → RegState
  | .vdd => s.regVdd
  | .vpp => s.regVpp

def State.setReg (s : State) (r : Rail) (g : RegState) : State :=
  match r with
  | .vdd => { s with regVdd := g }
  | .vpp => { s with regVpp := g }

/-- `PWM[r]`. -/
def State.pwm (s : State) : Rail → Pwm
  | .vdd => s.pwmVdd
  | .vpp => s.pwmVpp

def State.setPwm (s : State) (r : Rail) (p : Pwm) : State :=
  match r with
  | .vdd => { s with pwmVdd := p }
  | .vpp => { s with pwmVpp := p }

/-- `RAIL[r].enPin`. -/
def State.enPin (s : State) : Rail → Pin
  | .vdd => s.railVdd.enPin
  | .vpp => s.railVpp.enPin

/-- `RAIL[r].enabled`. -/
def State.enabled (s : State) : Rail → Bool
  | .vdd => s.railVdd.enabled
  | .vpp => s.railVpp.enabled

def State.setEnabled (s : State) (r : Rail) (on : Bool) : State :=
  match r with
  | .vdd => { s with railVdd := { s.railVdd with enabled := on } }
  | .vpp => { s with railVpp := { s.railVpp with enabled := on } }

/-- A context's own state. -/
def State.ctx (s : State) : Ctx → CtxState
  | .a => s.a
  | .b => s.b

def State.setCtx (s : State) (c : Ctx) (x : CtxState) : State :=
  match c with
  | .a => { s with a := x }
  | .b => { s with b := x }

def State.setResult (s : State) (c : Ctx) (res : Result) : State := s.setCtx c { s.ctx c with result := res }

def State.setWait (s : State) (c : Ctx) (w : Wait) : State := s.setCtx c { s.ctx c with wait := w }

def State.setStuck (s : State) (c : Ctx) : State := s.setCtx c { s.ctx c with stuck := true }

/-- The channel context `c` puts words into: `FIFO[AtoB]` for A, `FIFO[BtoA]` for B (R218). -/
def State.outFifo (s : State) : Ctx → Option U32
  | .a => s.fifoAtoB
  | .b => s.fifoBtoA

def State.setOutFifo (s : State) (c : Ctx) (x : Option U32) : State :=
  match c with
  | .a => { s with fifoAtoB := x }
  | .b => { s with fifoBtoA := x }

/-- The channel context `c` gets words from (R219). -/
def State.inFifo (s : State) (c : Ctx) : Option U32 := s.outFifo c.other

def State.setInFifo (s : State) (c : Ctx) (x : Option U32) : State := s.setOutFifo c.other x

/-- `RAIL[VPP].route.k`. -/
def Route.get (t : Route) : RouteBit → Bool
  | .a9 => t.a9
  | .a18 => t.a18
  | .ce => t.ce
  | .oe => t.oe
  | .we => t.we

def Route.set (t : Route) (k : RouteBit) (b : Bool) : Route :=
  match k with
  | .a9 => { t with a9 := b }
  | .a18 => { t with a18 := b }
  | .ce => { t with ce := b }
  | .oe => { t with oe := b }
  | .we => { t with we := b }

/-- `ROUTE_BIT[k]` (R10). -/
def routePosition (p : RoutePositions) : RouteBit → Fin 8
  | .a9 => p.a9
  | .a18 => p.a18
  | .ce => p.ce
  | .oe => p.oe
  | .we => p.we

/-- The five routing bits (R32). -/
def routeBits : List RouteBit := [.a9, .a18, .ce, .oe, .we]

/-- The routing bits a build puts at position `n` of the shift register (R10, R32). -/
def bitsAt (p : RoutePositions) (n : Fin 8) : List RouteBit := routeBits.filter fun k => routePosition p k == n

/-- Bit `n` of the shift register's output as far as the rules fix it (R32, R169): the value of the routing bit at position
`n`; none at the positions of other components (R350). DESIGN CHOICE (log 30): no rule requires the five positions to be
distinct or says which of two bits at one position shows; the view gives their common value, and none while they differ. -/
def State.srOutput (s : State) (n : Fin 8) : Option Bool :=
  match (bitsAt s.build.routeBit n).map s.railVpp.route.get with
  | [] => none
  | b :: bs => if bs.all (· == b) then some b else none

/-- `REFUSED` (R40). -/
def State.refused (s : State) : Bool := !s.refusals.isEmpty

/-- `refuse(reason)`: mark the run (R16, R40; log 1). -/
def State.refuse (s : State) (why : RefuseReason) : State := { s with refusals := s.refusals ++ [why] }

/-- Append a response to `OUT` (R39, R250). -/
def State.emit (s : State) (t : Text) : State := { s with out := s.out ++ [t] }

/-- `CoreStatus` as the number of R33 and R214. -/
def CoreStatus.code : CoreStatus → Nat
  | .stopped => 0
  | .starting => 1
  | .running => 2
  | .stopping => 3

/-! ### The NVM (R38, R60 to R69) -/

/-- One byte of the NVM: its listed value, else `nvmDefault`. -/
def nvmGet : List Host.Cell → Nat → Byte
  | [], _ => nvmDefault
  | (k, v) :: m, a => if k = a then v else nvmGet m a

/-- Writing one byte of the NVM, keeping the canonical form: addresses rising, no entry equal to `nvmDefault`. -/
def nvmSet : List Host.Cell → Nat → Byte → List Host.Cell
  | [], a, b => if b = nvmDefault then [] else [(a, b)]
  | (k, v) :: m, a, b =>
    if a < k then (if b = nvmDefault then (k, v) :: m else (a, b) :: (k, v) :: m)
    else if a = k then (if b = nvmDefault then m else (a, b) :: m)
    else (k, v) :: nvmSet m a b

/-- The canonical form with every address at least `lo`. -/
def nvmWfFrom (lo : Nat) : List Host.Cell → Bool
  | [] => true
  | (k, v) :: m => decide (lo ≤ k) && v != nvmDefault && nvmWfFrom (k + 1) m

/-- The canonical form of the listed bytes. -/
def nvmWf (m : List Host.Cell) : Bool := nvmWfFrom 0 m

/-- `NVM[a]`. -/
def State.nvmByte (s : State) (a : Nat) : Byte := nvmGet s.nvm a

/-- `NvmWrite(off, bytes)` inside the storage (R16). -/
def nvmWrite (m : List Host.Cell) (off : Nat) : List Byte → List Host.Cell
  | [] => m
  | b :: bs => nvmWrite (nvmSet m off b) (off + 1) bs

/-- Both records lie inside `0 .. NVM_SIZE-1`: with `NVM_SIZE` below 13 every record access is refused (R66, R16). -/
def State.recordsInRange (s : State) : Bool := decide (13 ≤ s.build.nvmSize)

/-- Byte `k` of a binary32 pattern, bits `8k+7 : 8k` (R61). -/
def f32Byte (v : F32) (k : Nat) : Byte := v.extractLsb' (8 * k) 8

/-- `Cks(b0, b1, b2, b3)`, the 8-bit sum (R62). -/
def cks (b0 b1 b2 b3 : Byte) : Byte := b0 + b1 + b2 + b3

/-- The five bytes of a record (R61, R63). -/
def recordBytes (v : F32) : List Byte :=
  let b0 := f32Byte v 0
  let b1 := f32Byte v 1
  let b2 := f32Byte v 2
  let b3 := f32Byte v 3
  [b0, b1, b2, b3, cks b0 b1 b2 b3]

/-- The binary32 pattern `b3:b2:b1:b0` (R64). -/
def f32OfBytes (b0 b1 b2 b3 : Byte) : F32 := b3 ++ b2 ++ b1 ++ b0

/-- Byte `k` of the record of rail `r`. -/
def State.recordByte (s : State) (r : Rail) (k : Nat) : Byte := s.nvmByte (Config.calBase r + k)

/-- The offset the record's bytes hold, checked or not (R64 `v`). -/
def State.recordValue (s : State) (r : Rail) : F32 :=
  f32OfBytes (s.recordByte r 0) (s.recordByte r 1) (s.recordByte r 2) (s.recordByte r 3)

/-- The record is valid: its checksum matches and its offset is finite (R64, R168). -/
def State.recordValid (s : State) (r : Rail) : Bool :=
  s.recordByte r 4 == cks (s.recordByte r 0) (s.recordByte r 1) (s.recordByte r 2) (s.recordByte r 3)
    && f32Finite (s.recordValue r)

/-- `LoadRecord(r)` (R64). -/
def State.loadRecord (s : State) (r : Rail) : F32 := if s.recordValid r then s.recordValue r else f32_0

/-- `SaveRecord(r, v)` inside the storage (R63). -/
def State.saveRecord (s : State) (r : Rail) (v : F32) : State :=
  { s with nvm := nvmWrite s.nvm (Config.calBase r) (recordBytes v) }

/-! ### The ADC (R13, R28, R70) -/

/-- The next code the environment answers: a listed one, else a draw (log 4). -/
def Env.nextCode (e : Env) : AdcCode :=
  match e.adc with
  | c :: _ => c
  | [] => Config.adcDraw e.adcTick

/-- The environment after one sample: each sample consumes one code (R70). -/
def Env.afterSample (e : Env) : Env := { e with adc := e.adc.tail, adcTick := e.adcTick + 1 }

/-- The sum of the next `n` codes and the environment after them (R124). -/
def Env.sampleSum : Nat → Env → Nat × Env
  | 0, e => (0, e)
  | n + 1, e =>
    let rest := Env.sampleSum n e.afterSample
    (e.nextCode.toNat + rest.1, rest.2)

/-- What `Uncal(r)` returns for an assigned channel (R124). -/
def State.uncal (s : State) (r : Rail) : F32 :=
  uncalOf s.build (s.reg r).cfg (Env.sampleSum s.build.adcAvgSamples s.env).1

/-- The state after the samples of `Uncal(r)`: the codes are consumed, nothing else changes (R28, R70). -/
def State.afterUncal (s : State) : State :=
  { s with env := (Env.sampleSum s.build.adcAvgSamples s.env).2 }

/-! ### Outcomes of an operation -/

/-- How an operation's pseudocode ends (R16): with a result (`fail` is the result `false`), or refused; each with the
state as far as the pseudocode wrote it. -/
inductive OpOut where
  | ret (s : State) (res : Result)
  | refuse (s : State) (why : RefuseReason)
  deriving DecidableEq, Repr, Inhabited

/-- `fail` (R16): the result `false`, nothing written. -/
def OpOut.fail (s : State) : OpOut := .ret s (.bool false)

/-- `perform`: go on with the state and the result, unless refused. -/
def OpOut.bind (o : OpOut) (k : State → Result → OpOut) : OpOut :=
  match o with
  | .ret s res => k s res
  | .refuse s why => .refuse s why

/-- The result reaches the issuer `c`, or the run is marked (R17, R40, R307). -/
def OpOut.commit (o : OpOut) (c : Ctx) : State :=
  match o with
  | .ret s res => s.setResult c res
  | .refuse s why => s.refuse why

/-- `Uncal(r)` inside an operation: refused when the channel is unassigned (R124), else the voltage and the state after
the samples. -/
def withUncal (r : Rail) (s : State) (k : F32 → State → OpOut) : OpOut :=
  if (s.reg r).cfg.channel = .unassigned then .refuse s .unassignedChannel else k (s.uncal r) s.afterUncal

/-! ### Contexts and the mutex (R72, R306) -/

/-- The contexts a row's "Ctx" column allows (R84, R306). -/
inductive Allowed where
  | onlyA
  | onlyB
  | both
  deriving DecidableEq, Repr, Inhabited

def Allowed.admits : Allowed → Ctx → Bool
  | .onlyA, .a => true
  | .onlyA, .b => false
  | .onlyB, .a => false
  | .onlyB, .b => true
  | .both, _ => true

/-- `MUTEX.owner ∈ {none, c}`: an operation of `c` on shared state may run (R72). -/
def State.mayTake (s : State) (c : Ctx) : Bool := s.mutex == none || s.mutex == some c

/-- An internal operation on shared state (R71, R72, R306): refused to a context the row does not allow; it holds, nothing
changing, while the other context owns the mutex (log 21); else its body runs whole, and the mutex is as before. -/
def runShared (ctxs : Allowed) (body : State → OpOut) (s : State) : Host.Outcome State Fault Refusal :=
  .next <|
    if ctxs.admits s.issuer then
      if s.mayTake s.issuer then (body s).commit s.issuer else s
    else s.refuse .contextViolation

/-- An internal operation of the sequencer, which needs no mutex (R73, R306). -/
def runFree (ctxs : Allowed) (body : State → Ctx → State) (s : State) : Host.Outcome State Fault Refusal :=
  .next <| if ctxs.admits s.issuer then body s s.issuer else s.refuse .contextViolation

/-- A handler (R255): one atomic step of context A under the mutex, which holds while B owns it (log 21, log 29). -/
def runHandler (body : State → State) (s : State) : Host.Outcome State Fault Refusal :=
  .next <| if s.mayTake .a then body s else s

/-- The response of a handler that performs one rail operation: `NOK` when it returned `false`, else `OK` (R255); no
response from a refused one (log 20). -/
def OpOut.respond : OpOut → State
  | .ret s (.bool false) => s.emit nokText
  | .ret s _ => s.emit okText
  | .refuse s why => s.refuse why

/-! ### Reset (R330 to R333) -/

/-- The hardware reset: every field to its reset value, the NVM kept (R330, R331, R333); the build and what the
environment will supply are not the block's to reset (log 22). -/
def State.hardReset (s : State) : State := .resetOf s.build s.nvm s.env

end Sys2Proof.Machine
end

