-- ==== Sys2Proof/Machine/Regulator.lean ====
section
/-! DEFINITION. The regulator operations (40_regulator.md R126 to R136): each rule's pseudocode as an operation over the
state, and the meaning of each instruction over it. -/

namespace Sys2Proof.Machine

/-- The writes of a stop (R128, and the stop inside R126): minimum duty, output disarmed. -/
def State.disarm (s : State) (r : Rail) : State :=
  let g := s.reg r
  (s.setPwm r { s.pwm r with duty := g.cfg.minDuty, armed := false }).setReg r
    { g with duty := g.cfg.minDuty, running := false }

/-- `REG_CONFIGURE r, cfg'` (R126). -/
def opRegConfigure (r : Rail) (cfg : RegulatorConfig) (s : State) : OpOut :=
  if !cfgWF cfg then .refuse s .illFormedConfig
  else if cfg.pin ≠ .unassigned ∧ cfg.pin = (s.reg r.other).cfg.pin then .refuse s .sharedPwmPin
  else
    let s1 := if stopsOnConfigure (s.reg r).running (s.reg r).cfg cfg then s.disarm r else s
    .ret (s1.setReg r { s1.reg r with cfg := cfg }) .nothing

/-- `REG_START r` (R127). -/
def opRegStart (r : Rail) (s : State) : OpOut :=
  let c := (s.reg r).cfg
  if !configured c then .fail s
  else
    let s1 := s.setPwm r { pin := c.pin, freq := c.freq, duty := c.minDuty, armed := true }
    .ret (s1.setReg r { s.reg r with duty := c.minDuty, running := true }) (.bool true)

/-- `REG_STOP r` (R128). -/
def opRegStop (r : Rail) (s : State) : OpOut :=
  if !configured (s.reg r).cfg then .fail s else .ret (s.disarm r) (.bool true)

/-- `REG_SET_TARGET r, v` (R129). -/
def opRegSetTarget (r : Rail) (v : F32) (s : State) : OpOut :=
  if f32IsNaN v then .refuse s .nanOperand
  else
    let v' := if f32Lt v f32_0 then f32_0 else v
    if f32Eq v' (s.reg r).target then .ret s .nothing
    else .ret (s.setReg r { s.reg r with target := v' }) .nothing

/-- Steps (2) to (5) of an adjust with the measured voltage `actual` (R130). -/
def State.applyAdjust (s : State) (r : Rail) (actual : F32) : State :=
  let g := s.reg r
  let d := newDuty actual g.target g.duty g.cfg
  if f32Eq d g.duty then s.setReg r { g with measured := actual }
  else (s.setReg r { g with measured := actual, duty := d }).setPwm r { s.pwm r with duty := d }

/-- `REG_ADJUST r` (R130). -/
def opRegAdjust (r : Rail) (s : State) : OpOut :=
  let g := s.reg r
  if !g.running then .ret (s.setReg r { g with measured := f32_0, duty := f32_0 }) .nothing
  else withUncal r s fun u s1 => .ret (s1.applyAdjust r (f32Add u g.cal)) .nothing

/-- `REG_SET_CAL r, v` (R132). -/
def opRegSetCal (r : Rail) (v : F32) (s : State) : OpOut :=
  .ret (s.setReg r { s.reg r with cal := v }) .nothing

/-- `REG_CONFIGURE` (R126). -/
def execRegConfigure (r : Rail) (cfg : RegulatorConfig) (s : State) : Host.Outcome State Fault Refusal :=
  runShared .onlyA (opRegConfigure r cfg) s

/-- `REG_START` (R127). -/
def execRegStart (r : Rail) (s : State) : Host.Outcome State Fault Refusal := runShared .onlyA (opRegStart r) s

/-- `REG_STOP` (R128). -/
def execRegStop (r : Rail) (s : State) : Host.Outcome State Fault Refusal := runShared .onlyA (opRegStop r) s

/-- `REG_SET_TARGET` (R129). -/
def execRegSetTarget (r : Rail) (v : F32) (s : State) : Host.Outcome State Fault Refusal :=
  runShared .onlyA (opRegSetTarget r v) s

/-- `REG_ADJUST` (R130): context B only (R306). -/
def execRegAdjust (r : Rail) (s : State) : Host.Outcome State Fault Refusal := runShared .onlyB (opRegAdjust r) s

/-- `REG_GET_CAL` (R131). -/
def execRegGetCal (r : Rail) (s : State) : Host.Outcome State Fault Refusal :=
  runShared .onlyA (fun s => .ret s (.f32 (s.reg r).cal)) s

/-- `REG_SET_CAL` (R132). -/
def execRegSetCal (r : Rail) (v : F32) (s : State) : Host.Outcome State Fault Refusal :=
  runShared .onlyA (opRegSetCal r v) s

/-- `REG_GET_TARGET` (R133). -/
def execRegGetTarget (r : Rail) (s : State) : Host.Outcome State Fault Refusal :=
  runShared .onlyA (fun s => .ret s (.f32 (s.reg r).target)) s

/-- `REG_GET_V` (R134): the stored value, no new sample. -/
def execRegGetV (r : Rail) (s : State) : Host.Outcome State Fault Refusal :=
  runShared .onlyA (fun s => .ret s (.f32 (s.reg r).measured)) s

/-- `REG_GET_DUTY` (R135). -/
def execRegGetDuty (r : Rail) (s : State) : Host.Outcome State Fault Refusal :=
  runShared .onlyA (fun s => .ret s (.f32 (s.reg r).duty)) s

/-- `REG_IS_RUNNING` (R136). -/
def execRegIsRunning (r : Rail) (s : State) : Host.Outcome State Fault Refusal :=
  runShared .onlyA (fun s => .ret s (.bool (s.reg r).running)) s

end Sys2Proof.Machine
end

