-- ==== Sys2Proof/Machine/Container.lean ====
section
/-! DEFINITION. The two-rail container (41_rail.md R180 to R182). -/

namespace Sys2Proof.Machine

/-- Two operations that answer a bool, both attempted, VDD first; the result is their conjunction (R180, R181). -/
def opBothRails (op : Rail → State → OpOut) (s : State) : OpOut :=
  (op .vdd s).bind fun s1 x => (op .vpp s1).bind fun s2 y => .ret s2 (.bool (x == .bool true && y == .bool true))

/-- `RAILS_START` (R180). -/
def execRailsStart (s : State) : Host.Outcome State Fault Refusal := runShared .onlyA (opBothRails opRegStart) s

/-- `RAILS_STOP` (R181). -/
def execRailsStop (s : State) : Host.Outcome State Fault Refusal := runShared .onlyA (opBothRails opRegStop) s

/-- `RAILS_IS_RUNNING` (R182). -/
def execRailsIsRunning (s : State) : Host.Outcome State Fault Refusal :=
  runShared .onlyA (fun s => .ret s (.bool (s.regVdd.running && s.regVpp.running))) s

end Sys2Proof.Machine
end

