-- ==== Sys2Proof/Machine/RailOps.lean ====
section
/-! DEFINITION. The rail operations and the variant outputs (41_rail.md R160 to R175). -/

namespace Sys2Proof.Machine

/-- `RailConfigured(r)` (R160). -/
def State.railConfigured (s : State) (r : Rail) : Bool := s.enPin r != .unassigned && configured (s.reg r).cfg

/-- The rail wrapper's writes of a reconfigure (R161): the enable is cleared when its pin changes, VDD's routing onto VPP
and VPP's five routing bits always. -/
def State.applyRailConfig (s : State) (r : Rail) (rc : RailConfig) : State :=
  match r with
  | .vdd =>
    { s with railVdd :=
        { enPin := rc.enPin, enabled := s.railVdd.enabled && rc.enPin == s.railVdd.enPin
          onVppPin := rc.onVppPin, onVpp := false } }
  | .vpp =>
    { s with railVpp :=
        { enPin := rc.enPin, enabled := s.railVpp.enabled && rc.enPin == s.railVpp.enPin
          srPins := rc.srPins, route := .clear } }

/-- `RAIL_CONFIGURE r, rc` (R161). -/
def opRailConfigure (r : Rail) (rc : RailConfig) (s : State) : OpOut :=
  (opRegConfigure r rc.reg s).bind fun s1 _ => .ret (s1.applyRailConfig r rc) .nothing

/-- `RAIL_ON r` (R162). -/
def opRailOn (r : Rail) (s : State) : OpOut :=
  if !s.railConfigured r then .fail s else .ret (s.setEnabled r true) (.bool true)

/-- `RAIL_OFF r` (R163). -/
def opRailOff (r : Rail) (s : State) : OpOut :=
  if !s.railConfigured r then .fail s else .ret (s.setEnabled r false) (.bool true)

/-- `RAIL_TOGGLE r` (R165). -/
def opRailToggle (r : Rail) (s : State) : OpOut :=
  if !s.railConfigured r then .fail s else .ret (s.setEnabled r (!s.enabled r)) (.bool true)

/-- `RAIL_INIT_CAL r, ref` (R166). -/
def opRailInitCal (r : Rail) (ref : F32) (s : State) : OpOut :=
  if f32IsNaN ref then .refuse s .nanOperand
  else (opRegSetCal r f32_0 s).bind fun s1 _ => opRegSetTarget r ref s1

/-- `RAIL_SAVE_CAL r, m` (R167): the record is written after the offset register (log 19). -/
def opRailSaveCal (r : Rail) (m : F32) (s : State) : OpOut :=
  if !s.railConfigured r then .fail s
  else withUncal r s fun u s1 =>
    let off := f32Sub m u
    (opRegSetCal r off s1).bind fun s2 _ =>
      if s2.recordsInRange then .ret (s2.saveRecord r off) (.bool true) else .refuse s2 .nvmRange

/-- `RAIL_LOAD_CAL r` (R168). -/
def opRailLoadCal (r : Rail) (s : State) : OpOut :=
  if !s.recordsInRange then .refuse s .nvmRange
  else (opRegSetCal r (s.loadRecord r) s).bind fun s1 _ => .ret s1 (.bool (s.recordValid r))

/-- `SetRoute(k, b)` (R169). -/
def opSetRoute (k : RouteBit) (b : Bool) (s : State) : OpOut :=
  if !srAssigned s.railVpp.srPins then .fail s
  else .ret { s with railVpp := { s.railVpp with route := s.railVpp.route.set k b } } (.bool true)

/-- `VDD_SET_ON_VPP b` (R175). -/
def opSetOnVpp (b : Bool) (s : State) : OpOut :=
  if s.railVdd.onVppPin = .unassigned then .fail s
  else .ret { s with railVdd := { s.railVdd with onVpp := b } } (.bool true)

/-- `RAIL_CONFIGURE` (R161). -/
def execRailConfigure (r : Rail) (rc : RailConfig) (s : State) : Host.Outcome State Fault Refusal :=
  runShared .onlyA (opRailConfigure r rc) s

/-- `RAIL_ON` (R162). -/
def execRailOn (r : Rail) (s : State) : Host.Outcome State Fault Refusal := runShared .onlyA (opRailOn r) s

/-- `RAIL_OFF` (R163). -/
def execRailOff (r : Rail) (s : State) : Host.Outcome State Fault Refusal := runShared .onlyA (opRailOff r) s

/-- `RAIL_IS_ON` (R164). -/
def execRailIsOn (r : Rail) (s : State) : Host.Outcome State Fault Refusal :=
  runShared .onlyA (fun s => .ret s (.bool (s.enabled r))) s

/-- `RAIL_TOGGLE` (R165). -/
def execRailToggle (r : Rail) (s : State) : Host.Outcome State Fault Refusal := runShared .onlyA (opRailToggle r) s

/-- `RAIL_INIT_CAL` (R166). -/
def execRailInitCal (r : Rail) (ref : F32) (s : State) : Host.Outcome State Fault Refusal :=
  runShared .onlyA (opRailInitCal r ref) s

/-- `RAIL_SAVE_CAL` (R167). -/
def execRailSaveCal (r : Rail) (m : F32) (s : State) : Host.Outcome State Fault Refusal :=
  runShared .onlyA (opRailSaveCal r m) s

/-- `RAIL_LOAD_CAL` (R168). -/
def execRailLoadCal (r : Rail) (s : State) : Host.Outcome State Fault Refusal := runShared .onlyA (opRailLoadCal r) s

/-- `VPP_SET_A9` (R170). -/
def execVppSetA9 (b : Bool) (s : State) : Host.Outcome State Fault Refusal := runShared .onlyA (opSetRoute .a9 b) s

/-- `VPP_SET_A18` (R171). -/
def execVppSetA18 (b : Bool) (s : State) : Host.Outcome State Fault Refusal := runShared .onlyA (opSetRoute .a18 b) s

/-- `VPP_SET_CE` (R172). -/
def execVppSetCe (b : Bool) (s : State) : Host.Outcome State Fault Refusal := runShared .onlyA (opSetRoute .ce b) s

/-- `VPP_SET_OE` (R173). -/
def execVppSetOe (b : Bool) (s : State) : Host.Outcome State Fault Refusal := runShared .onlyA (opSetRoute .oe b) s

/-- `VPP_SET_WE` (R174). -/
def execVppSetWe (b : Bool) (s : State) : Host.Outcome State Fault Refusal := runShared .onlyA (opSetRoute .we b) s

/-- `VDD_SET_ON_VPP` (R175). -/
def execVddSetOnVpp (b : Bool) (s : State) : Host.Outcome State Fault Refusal := runShared .onlyA (opSetOnVpp b) s

end Sys2Proof.Machine
end

