-- ==== Sys2Proof/Machine/HostCommands.lean ====
section
/-! DEFINITION. The handlers of the wire commands (43_host_commands.md R255 to R269): each one atomic step of context A
under the mutex, which performs its rail operation and appends its response to `OUT`. -/

namespace Sys2Proof.Machine

/-- `NOP` (R256). -/
def execNop (s : State) : Host.Outcome State Fault Refusal := runHandler (fun s => s.emit okText) s

/-- `ENABLE r, b` (R257). -/
def execEnable (r : Rail) (p1 : Byte) (s : State) : Host.Outcome State Fault Refusal :=
  runHandler (fun s => (if decBool p1 then opRailOn r s else opRailOff r s).respond) s

/-- `SET_V r, v` (R258). -/
def execSetV (r : Rail) (p1 p2 : Byte) (s : State) : Host.Outcome State Fault Refusal :=
  runHandler (fun s => (opRegSetTarget r (decFloat p1 p2) s).respond) s

/-- `GET_V r` (R259). -/
def execGetV (r : Rail) (s : State) : Host.Outcome State Fault Refusal :=
  runHandler (fun s => s.emit (okFloatText (s.reg r).measured)) s

/-- `GET_DUTY r` (R260). -/
def execGetDuty (r : Rail) (s : State) : Host.Outcome State Fault Refusal :=
  runHandler (fun s => s.emit (okFloatText (s.reg r).duty)) s

/-- `GET_CAL r` (R261). -/
def execGetCal (r : Rail) (s : State) : Host.Outcome State Fault Refusal :=
  runHandler (fun s => s.emit (okFloatText (s.reg r).cal)) s

/-- `INIT_CAL r` (R262): the reference is the build constant `CAL_REFERENCE[r]`. -/
def execInitCal (r : Rail) (s : State) : Host.Outcome State Fault Refusal :=
  runHandler (fun s => (opRailInitCal r (s.build.rail r).calReference s).respond) s

/-- `SAVE_CAL r, m` (R263). -/
def execSaveCal (r : Rail) (p1 p2 : Byte) (s : State) : Host.Outcome State Fault Refusal :=
  runHandler (fun s => (opRailSaveCal r (decFloat p1 p2) s).respond) s

/-- `SET_A9 b` (R264). -/
def execSetA9 (p1 : Byte) (s : State) : Host.Outcome State Fault Refusal :=
  runHandler (fun s => (opSetRoute .a9 (decBool p1) s).respond) s

/-- `SET_A18 b` (R265). -/
def execSetA18 (p1 : Byte) (s : State) : Host.Outcome State Fault Refusal :=
  runHandler (fun s => (opSetRoute .a18 (decBool p1) s).respond) s

/-- `SET_CE b` (R266). -/
def execSetCe (p1 : Byte) (s : State) : Host.Outcome State Fault Refusal :=
  runHandler (fun s => (opSetRoute .ce (decBool p1) s).respond) s

/-- `SET_OE b` (R267). -/
def execSetOe (p1 : Byte) (s : State) : Host.Outcome State Fault Refusal :=
  runHandler (fun s => (opSetRoute .oe (decBool p1) s).respond) s

/-- `SET_WE b` (R268). -/
def execSetWe (p1 : Byte) (s : State) : Host.Outcome State Fault Refusal :=
  runHandler (fun s => (opSetRoute .we (decBool p1) s).respond) s

/-- `SET_VDD_ON_VPP b` (R269). -/
def execSetVddOnVpp (p1 : Byte) (s : State) : Host.Outcome State Fault Refusal :=
  runHandler (fun s => (opSetOnVpp (decBool p1) s).respond) s

end Sys2Proof.Machine
end

