-- ==== Sys2Proof/Machine/Sequencer.lean ====
section
/-! DEFINITION. The sequencer's operations (42_sequencer.md R211 to R219) and the completion of held ones (R215 to R219).
A lock, a put or a get whose condition already holds completes in its own step (log 17). -/

namespace Sys2Proof.Machine

/-- `SEQ_LAUNCH`, up to its hold (R211). -/
def opSeqLaunch (s : State) (c : Ctx) : State :=
  if s.seq.status ≠ .stopped then s.setResult c .nothing
  else
    { s with seq := { status := .starting, phase := .entry }, fifoAtoB := none, fifoBtoA := none }.setWait c .launch

/-- `SEQ_STOP`, up to its hold (R212). -/
def opSeqStop (s : State) (c : Ctx) : State :=
  if s.seq.status ≠ .running then s.setResult c .nothing
  else { s with seq := { s.seq with status := .stopping } }.setWait c .stop

/-- `SEQ_LOCK` (R216): stuck for the owner, taken when free, else held. -/
def opSeqLock (s : State) (c : Ctx) : State :=
  match s.mutex with
  | none => { s with mutex := some c }.setResult c .nothing
  | some o => if o = c then s.setStuck c else s.setWait c .lock

/-- `SEQ_UNLOCK` (R217). -/
def opSeqUnlock (s : State) (c : Ctx) : State :=
  if s.mutex = some c then { s with mutex := none }.setResult c .nothing else s.refuse .unlockNotOwner

/-- `SEQ_PUT_PARAM w` (R218). -/
def opSeqPutParam (w : U32) (s : State) (c : Ctx) : State :=
  if s.seq.status ≠ .running then s.setResult c .nothing
  else
    match s.outFifo c with
    | none => (s.setOutFifo c (some w)).setResult c .nothing
    | some _ => s.setWait c (.put w)

/-- `SEQ_GET_PARAM` (R219). -/
def opSeqGetParam (s : State) (c : Ctx) : State :=
  if s.seq.status ≠ .running then s.setResult c .noValue
  else
    match s.inFifo c with
    | some w => (s.setInFifo c none).setResult c (.u32 w)
    | none => s.setWait c .get

/-- The operation of context `c` is over: `WAIT[c] <- none`, with its result. -/
def State.finish (s : State) (c : Ctx) (res : Result) : State := (s.setWait c .none).setResult c res

/-- The step that completes a held operation of context `c`, when its condition holds (R215 to R219). -/
def completeWait (s : State) (c : Ctx) : Option State :=
  match (s.ctx c).wait with
  | .none => none
  | .launch => if s.seq.status = .running then some (s.finish c .nothing) else none
  | .stop => if s.seq.status = .stopped then some (s.finish c .nothing) else none
  | .lock => if s.mutex = none then some ({ s with mutex := some c }.finish c .nothing) else none
  | .put w =>
    match s.outFifo c with
    | none => some ((s.setOutFifo c (some w)).finish c .nothing)
    | some _ => none
  | .get =>
    match s.inFifo c with
    | some w => some ((s.setInFifo c none).finish c (.u32 w))
    | none => none

/-- `SEQ_LAUNCH` (R211). -/
def execSeqLaunch (s : State) : Host.Outcome State Fault Refusal := runFree .onlyA opSeqLaunch s

/-- `SEQ_STOP` (R212). -/
def execSeqStop (s : State) : Host.Outcome State Fault Refusal := runFree .onlyA opSeqStop s

/-- `SEQ_IS_STOP_REQUESTED` (R213). -/
def execSeqIsStopRequested (s : State) : Host.Outcome State Fault Refusal :=
  runFree .both (fun s c => s.setResult c (.bool (s.seq.status == .stopping))) s

/-- `SEQ_GET_STATUS` (R214). -/
def execSeqGetStatus (s : State) : Host.Outcome State Fault Refusal :=
  runFree .both (fun s c => s.setResult c (.status s.seq.status)) s

/-- `SEQ_LOCK` (R216). -/
def execSeqLock (s : State) : Host.Outcome State Fault Refusal := runFree .both opSeqLock s

/-- `SEQ_UNLOCK` (R217). -/
def execSeqUnlock (s : State) : Host.Outcome State Fault Refusal := runFree .both opSeqUnlock s

/-- `SEQ_PUT_PARAM` (R218). -/
def execSeqPutParam (w : U32) (s : State) : Host.Outcome State Fault Refusal := runFree .both (opSeqPutParam w) s

/-- `SEQ_GET_PARAM` (R219). -/
def execSeqGetParam (s : State) : Host.Outcome State Fault Refusal := runFree .both opSeqGetParam s

end Sys2Proof.Machine
end

