-- ==== Sys2Proof/Machine/Dispatch.lean ====
section
/-! DEFINITION. The dispatch of an operation to its meaning: one arm per row of the opcode table. -/

namespace Sys2Proof.Machine

def exec (i : Instr) (s : State) : Host.Outcome State Fault Refusal :=
  match i with
  | .nop => Sys2Proof.Machine.execNop s
  | .enable r p1 => Sys2Proof.Machine.execEnable r p1 s
  | .setV r p1 p2 => Sys2Proof.Machine.execSetV r p1 p2 s
  | .getV r => Sys2Proof.Machine.execGetV r s
  | .getDuty r => Sys2Proof.Machine.execGetDuty r s
  | .getCal r => Sys2Proof.Machine.execGetCal r s
  | .initCal r => Sys2Proof.Machine.execInitCal r s
  | .saveCal r p1 p2 => Sys2Proof.Machine.execSaveCal r p1 p2 s
  | .setA9 p1 => Sys2Proof.Machine.execSetA9 p1 s
  | .setA18 p1 => Sys2Proof.Machine.execSetA18 p1 s
  | .setCe p1 => Sys2Proof.Machine.execSetCe p1 s
  | .setOe p1 => Sys2Proof.Machine.execSetOe p1 s
  | .setWe p1 => Sys2Proof.Machine.execSetWe p1 s
  | .setVddOnVpp p1 => Sys2Proof.Machine.execSetVddOnVpp p1 s
  | .regConfigure r cfg => Sys2Proof.Machine.execRegConfigure r cfg s
  | .regStart r => Sys2Proof.Machine.execRegStart r s
  | .regStop r => Sys2Proof.Machine.execRegStop r s
  | .regSetTarget r v => Sys2Proof.Machine.execRegSetTarget r v s
  | .regAdjust r => Sys2Proof.Machine.execRegAdjust r s
  | .regGetCal r => Sys2Proof.Machine.execRegGetCal r s
  | .regSetCal r v => Sys2Proof.Machine.execRegSetCal r v s
  | .regGetTarget r => Sys2Proof.Machine.execRegGetTarget r s
  | .regGetV r => Sys2Proof.Machine.execRegGetV r s
  | .regGetDuty r => Sys2Proof.Machine.execRegGetDuty r s
  | .regIsRunning r => Sys2Proof.Machine.execRegIsRunning r s
  | .railConfigure r rc => Sys2Proof.Machine.execRailConfigure r rc s
  | .railOn r => Sys2Proof.Machine.execRailOn r s
  | .railOff r => Sys2Proof.Machine.execRailOff r s
  | .railIsOn r => Sys2Proof.Machine.execRailIsOn r s
  | .railToggle r => Sys2Proof.Machine.execRailToggle r s
  | .railInitCal r ref => Sys2Proof.Machine.execRailInitCal r ref s
  | .railSaveCal r m => Sys2Proof.Machine.execRailSaveCal r m s
  | .railLoadCal r => Sys2Proof.Machine.execRailLoadCal r s
  | .vppSetA9 b => Sys2Proof.Machine.execVppSetA9 b s
  | .vppSetA18 b => Sys2Proof.Machine.execVppSetA18 b s
  | .vppSetCe b => Sys2Proof.Machine.execVppSetCe b s
  | .vppSetOe b => Sys2Proof.Machine.execVppSetOe b s
  | .vppSetWe b => Sys2Proof.Machine.execVppSetWe b s
  | .vddSetOnVpp b => Sys2Proof.Machine.execVddSetOnVpp b s
  | .railsStart => Sys2Proof.Machine.execRailsStart s
  | .railsStop => Sys2Proof.Machine.execRailsStop s
  | .railsIsRunning => Sys2Proof.Machine.execRailsIsRunning s
  | .seqLaunch => Sys2Proof.Machine.execSeqLaunch s
  | .seqStop => Sys2Proof.Machine.execSeqStop s
  | .seqIsStopRequested => Sys2Proof.Machine.execSeqIsStopRequested s
  | .seqGetStatus => Sys2Proof.Machine.execSeqGetStatus s
  | .seqLock => Sys2Proof.Machine.execSeqLock s
  | .seqUnlock => Sys2Proof.Machine.execSeqUnlock s
  | .seqPutParam w => Sys2Proof.Machine.execSeqPutParam w s
  | .seqGetParam => Sys2Proof.Machine.execSeqGetParam s

end Sys2Proof.Machine
end

