-- ==== Sys2Proof/Machine/Agents.lean ====
section
/-! DEFINITION. The agents' steps: context A's boot sequence (70_reset_and_hazards.md R334, R335) and dispatcher
(43_host_commands.md R250 to R255), context B's maintenance loop (42_sequencer.md R220 to R227), the operations a context
is handed to issue (R80, R84), and the choice of who moves (R305 (d)). A context's step is `none` when it has no enabled
step (R16 `hold`). -/

namespace Sys2Proof.Machine

/-! ### Which operations need the mutex, and who may issue them -/

/-- The "Ctx" column of R84 (R306); a wire command is context A's (R250). -/
def ctxAllowed : Instr → Allowed
  | .regAdjust _ => .onlyB
  | .seqIsStopRequested | .seqGetStatus | .seqLock | .seqUnlock | .seqPutParam _ | .seqGetParam => .both
  | .seqLaunch | .seqStop => .onlyA
  | .nop | .enable _ _ | .setV _ _ _ | .getV _ | .getDuty _ | .getCal _ | .initCal _ | .saveCal _ _ _ => .onlyA
  | .setA9 _ | .setA18 _ | .setCe _ | .setOe _ | .setWe _ | .setVddOnVpp _ => .onlyA
  | .regConfigure _ _ | .regStart _ | .regStop _ | .regSetTarget _ _ | .regGetCal _ | .regSetCal _ _ => .onlyA
  | .regGetTarget _ | .regGetV _ | .regGetDuty _ | .regIsRunning _ => .onlyA
  | .railConfigure _ _ | .railOn _ | .railOff _ | .railIsOn _ | .railToggle _ | .railInitCal _ _ => .onlyA
  | .railSaveCal _ _ | .railLoadCal _ => .onlyA
  | .vppSetA9 _ | .vppSetA18 _ | .vppSetCe _ | .vppSetOe _ | .vppSetWe _ | .vddSetOnVpp _ => .onlyA
  | .railsStart | .railsStop | .railsIsRunning => .onlyA

/-- The sequencer's operations need no mutex (R73); every other one does (R71, R255). -/
def needsMutex : Instr → Bool
  | .seqLaunch | .seqStop | .seqIsStopRequested | .seqGetStatus | .seqLock | .seqUnlock => false
  | .seqPutParam _ | .seqGetParam => false
  | .nop | .enable _ _ | .setV _ _ _ | .getV _ | .getDuty _ | .getCal _ | .initCal _ | .saveCal _ _ _ => true
  | .setA9 _ | .setA18 _ | .setCe _ | .setOe _ | .setWe _ | .setVddOnVpp _ => true
  | .regConfigure _ _ | .regStart _ | .regStop _ | .regSetTarget _ _ | .regAdjust _ | .regGetCal _ => true
  | .regSetCal _ _ | .regGetTarget _ | .regGetV _ | .regGetDuty _ | .regIsRunning _ => true
  | .railConfigure _ _ | .railOn _ | .railOff _ | .railIsOn _ | .railToggle _ | .railInitCal _ _ => true
  | .railSaveCal _ _ | .railLoadCal _ => true
  | .vppSetA9 _ | .vppSetA18 _ | .vppSetCe _ | .vppSetOe _ | .vppSetWe _ | .vddSetOnVpp _ => true
  | .railsStart | .railsStop | .railsIsRunning => true

/-- Context `c` may take the step that runs `i` now: it does not have to wait for the mutex (R72). A context that may not
issue `i` waits for nothing: its issue is refused (log 27). -/
def ready (i : Instr) (c : Ctx) (s : State) : Bool :=
  !(ctxAllowed i).admits c || !needsMutex i || s.mayTake c

/-- Run `i` as context `c`'s operation. -/
def runAs (c : Ctx) (i : Instr) (s : State) : Host.Outcome State Fault Refusal := exec i { s with issuer := c }

/-! ### Operations a context is handed to issue -/

/-- The next operation in the context's list has been issued. -/
def State.popIssue (s : State) (c : Ctx) : State := s.setCtx c { s.ctx c with prog := (s.ctx c).prog.tail }

/-- The step that issues the head of the context's list: an unknown selector is refused (R86), an operand of the wrong
type is a model type error (R93), an operation whose mutex the other context owns holds (R72). -/
def issueMove (c : Ctx) (s : State) : Option (Host.Outcome State Fault Refusal) :=
  match (s.ctx c).prog with
  | [] => none
  | is :: _ =>
    match decodeInternal is with
    | .ok i => if ready i c s then some (runAs c i (s.popIssue c)) else none
    | .error .unknownSelector => some (.next ((s.popIssue c).refuse .unknownSelector))
    | .error _ => some (.refused .operandType)

/-! ### Context A: boot (R334, R335) -/

/-- `BOOT_REG[r]` (R334). -/
def bootReg (b : Build) (r : Rail) : RegulatorConfig :=
  let p := b.rail r
  { pin := p.pwmPin, freq := p.pwmFreq, channel := p.adcChannel, vref := p.adcVref, divider := p.divider
    minDuty := p.minDuty, maxDuty := p.maxDuty, slowStep := p.slowStep, fastStep := p.fastStep
    farTol := p.farTol, tol := p.tol }

/-- `BOOT_RAIL[r]` (R334). -/
def bootRail (b : Build) : Rail → RailConfig
  | .vdd =>
    { reg := bootReg b .vdd, enPin := b.vdd.enPin, onVppPin := b.vddOnVppPin
      srPins := ⟨.unassigned, .unassigned, .unassigned⟩ }
  | .vpp => { reg := bootReg b .vpp, enPin := b.vpp.enPin, onVppPin := .unassigned, srPins := b.srPins }

/-- The operation of a boot step (R335). -/
def bootInstr (b : Build) : BootStep → Instr
  | .configureVdd => .railConfigure .vdd (bootRail b .vdd)
  | .configureVpp => .railConfigure .vpp (bootRail b .vpp)
  | .loadVdd => .railLoadCal .vdd
  | .loadVpp => .railLoadCal .vpp
  | .start => .railsStart
  | .launch => .seqLaunch

/-- Where A is after a boot step; after the last, in the dispatcher loop (R335 step 7). -/
def afterBoot : BootStep → APos
  | .configureVdd => .boot .configureVpp
  | .configureVpp => .boot .loadVdd
  | .loadVdd => .boot .loadVpp
  | .loadVpp => .boot .start
  | .start => .boot .launch
  | .launch => .opcodeFirst

/-- A's step in the boot sequence (R335); results are ignored, and a refused step is only marked (log 28). -/
def bootMove (k : BootStep) (s : State) : Option (Host.Outcome State Fault Refusal) :=
  let i := bootInstr s.build k
  if ready i .a s then some (runAs .a i { s with pos := afterBoot k }) else none

/-! ### Context A: the dispatcher (R250 to R255) -/

/-- The HOST's next event has been read (R251). -/
def State.popHost (s : State) : State := { s with env := { s.env with host := s.env.host.tail } }

/-- An opcode's two characters have been read (R252, R254): a pair that is not hex is discarded without a response; an
opcode that is no wire command is answered `NOK`; else the command's parameters are read, or, without any, its handler is
next. -/
def takeOpcode (c1 c2 : Byte) (s : State) : State :=
  match unHexPair c1 c2 with
  | none => { s with pos := .opcodeFirst }
  | some op =>
    match wireRow op with
    | none => { s with pos := .opcodeFirst }.emit nokText
    | some row => { s with pos := if row.params = 0 then .handler [op] else .params op [] }

/-- One more parameter character has been read (R253): when all `2P` are there, a non-hex one is answered `NOK`, else the
handler is next. -/
def takeParam (op : Byte) (cs : Text) (s : State) : State :=
  let want := match wireRow op with
    | some row => 2 * row.params
    | none => 0
  if cs.length < want then { s with pos := .params op cs }
  else
    match unHexAll cs with
    | none => { s with pos := .opcodeFirst }.emit nokText
    | some ps => { s with pos := .handler (op :: ps) }

/-- The dispatcher reads one event (R251 to R254): a `TIMEOUT` discards what has been read, without a response. -/
def readEvent (e : HostEvent) (s : State) : State :=
  match e with
  | .timeout => { s with pos := .opcodeFirst }
  | .char c =>
    match s.pos with
    | .opcodeFirst => { s with pos := .opcodeSecond c }
    | .opcodeSecond c1 => takeOpcode c1 c s
    | .params op cs => takeParam op (cs ++ [c]) s
    | .boot _ | .handler _ => s

/-- The dispatcher's step when it reads: none while the HOST supplies no event (R251; log 5). -/
def readMove (s : State) : Option (Host.Outcome State Fault Refusal) :=
  match s.env.host with
  | [] => none
  | e :: _ => some (.next (readEvent e s.popHost))

/-- A handler's step (R255): it holds while B owns the mutex. Bytes that are no complete command, which the dispatcher
never leaves here, are answered `NOK` as R90 has it (log 26). -/
def handlerMove (bytes : List Byte) (s : State) : Option (Host.Outcome State Fault Refusal) :=
  match decodeWire bytes with
  | .ok i => if ready i .a s then some (runAs .a i { s with pos := .opcodeFirst }) else none
  | .error _ => some (.next ({ s with pos := .opcodeFirst }.emit nokText))

/-- A's step by its position (R44). -/
def posMove (s : State) : Option (Host.Outcome State Fault Refusal) :=
  match s.pos with
  | .boot k => bootMove k s
  | .opcodeFirst | .opcodeSecond _ | .params _ _ => readMove s
  | .handler bytes => handlerMove bytes s

/-! ### Context B: the maintenance loop (R220 to R227) -/

/-- B's adjust step: `REG_ADJUST r` under the mutex, then the next phase (R222, R224; log 28). -/
def adjustMove (r : Rail) (next : Phase) (s : State) : Option (Host.Outcome State Fault Refusal) :=
  if ready (.regAdjust r) .b s then some (runAs .b (.regAdjust r) { s with seq := { s.seq with phase := next } })
  else none

/-- B's loop step by its phase; none in `Idle` (R220 to R227). -/
def loopMove (s : State) : Option (Host.Outcome State Fault Refusal) :=
  match s.seq.phase with
  | .idle => none
  | .entry => some (.next { s with seq := { status := .running, phase := .check } })
  | .check =>
    some (.next { s with seq := { s.seq with phase := if s.seq.status = .stopping then .exit else .adjVdd } })
  | .adjVdd => adjustMove .vdd .sleep1 s
  | .sleep1 => some (.next { s with seq := { s.seq with phase := .adjVpp } })
  | .adjVpp => adjustMove .vpp .sleep2 s
  | .sleep2 => some (.next { s with seq := { s.seq with phase := .check } })
  | .exit => some (.next { s with seq := { status := .stopped, phase := .idle } })

/-! ### Who moves -/

/-- A context's step: nothing when it is stuck (R16); the completion of a held operation, nothing else, while it is inside
one (R215 to R219); then the operations it has been handed (log 12); then its own program. -/
def ctxMove (c : Ctx) (s : State) : Option (Host.Outcome State Fault Refusal) :=
  if (s.ctx c).stuck then none
  else if (s.ctx c).wait ≠ .none then (completeWait s c).map .next
  else if (s.ctx c).prog ≠ [] then issueMove c s
  else
    match c with
    | .a => posMove s
    | .b => loopMove s

/-- Context A waits for the HOST's next event: it will move when one is supplied (R251). -/
def State.awaitsHost (s : State) : Bool :=
  !s.a.stuck && s.a.wait == .none && s.a.prog.isEmpty &&
    match s.pos with
    | .opcodeFirst | .opcodeSecond _ | .params _ _ => true
    | .boot _ | .handler _ => false

/-- Neither context has an enabled step and none can get one: each can be enabled only by the other, or by the HOST
(R346, R347; log 3). -/
def State.deadlocked (s : State) : Bool :=
  (ctxMove .a s).isNone && (ctxMove .b s).isNone && !s.awaitsHost

/-- The next mover: listed, else drawn (R305 (d), I8; log 2). -/
def State.nextMove (s : State) : Move :=
  match s.env.sched with
  | m :: _ => m
  | [] => Config.moveDraw s.env.tick

/-- The choice of this step has been used. -/
def State.popMove (s : State) : State :=
  { s with env := { s.env with sched := s.env.sched.tail, tick := s.env.tick + 1 } }

/-- The turn of context `c`: its step; without an enabled one nothing moves, or, in a deadlock, the machine is stuck
(log 3). -/
def ctxTurn (c : Ctx) (s : State) : Host.Outcome State Fault Refusal :=
  match ctxMove c s with
  | some o => o
  | none => if s.deadlocked then .fault .deadlock else .next s

/-- One step of the block: the move of whoever's turn it is. -/
def runStep (s : State) : Host.Outcome State Fault Refusal :=
  match s.nextMove with
  | .a => ctxTurn .a s.popMove
  | .b => ctxTurn .b s.popMove
  | .reset => .next s.popMove.hardReset

/-! ### Placing one operation to run next (log 14, log 15) -/

/-- Context `c` is between operations and owns or can take the mutex; it moves next. -/
def State.readyFor (s : State) (c : Ctx) : State :=
  let s1 := s.setCtx c { s.ctx c with wait := .none, stuck := false }
  { s1 with mutex := if s.mayTake c then s.mutex else none
            env := { s.env with sched := (match c with | .a => Move.a | .b => Move.b) :: s.env.sched } }

/-- The state in which the next step runs the code: a wire command as the dispatcher's complete command, an internal issue
at the head of its context's list (B's for an operation only B may issue, else A's). -/
def placeCode (s : State) : Code → State
  | .wire bytes =>
    let s1 := s.readyFor .a
    { s1 with pos := .handler bytes, a := { s1.a with prog := [] } }
  | .internal is =>
    let c : Ctx := match decodeInternal is with
      | .ok i => if (ctxAllowed i).admits .a then .a else .b
      | .error _ => .a
    let s1 := s.readyFor c
    s1.setCtx c { s1.ctx c with prog := is :: (s1.ctx c).prog }

end Sys2Proof.Machine
end

