-- ==== Sys2Proof/Machine/Step.lean ====
section
/-! DEFINITION. The step of the block, and the placing of one operation for the host. -/

namespace Sys2Proof.Machine

/-- One step: the move of whoever's turn it is (R7, R8). -/
def step (s : State) : Host.Outcome State Fault Refusal := runStep s

/-- `s` with the operation of an opcode-table word placed so that the next step runs it (log 14, log 15). -/
def State.withFetchWord (s : State) (nbits w : Nat) : State := placeCode s (tableCode nbits w)

end Sys2Proof.Machine
end

