-- ==== Sys2Proof/Safety.lean ====
section
/-! DEFINITION. What counts as a safe run, in the terms claims use: the launch and end premises (70_reset_and_hazards.md
R338, R339), the build requirements (R337), the duty bounds (10_state.md R24) and the state invariant. -/

namespace Sys2Proof.Machine

/-- A run that ends refused is never a successful run (R40). -/
def Unrefused (s : State) : Prop := s.refusals = []

/-- `CleanReset` (R339): the reset state of some build, NVM and environment. -/
def CleanReset (s : State) : Prop := ∃ b nvm env, s = .resetOf b nvm env

/-- The boot sequence has ended (R335): A is past its six steps and out of the launch's hold (R215). -/
def BootEnded (s : State) : Prop := (∀ k, s.pos ≠ .boot k) ∧ s.a.wait ≠ .launch

/-- `BootDone` (R339): a run that started from a clean reset has come here, and its boot sequence has ended. -/
def BootDone (s : State) : Prop :=
  ∃ (s0 : State) (n : Nat), CleanReset s0 ∧ Host.Core.run Sys2Proof.core n s0 = .next s ∧ BootEnded s

/-- A quiescent point (R338): boot has ended and A waits for its first opcode character, so it is not stuck, holds in no
operation and has none to issue (log 12, log 18), nor has B; the HOST has nothing more to supply; the mutex is free; B is
at `Idle` or at `Check`. -/
def Quiescent (s : State) : Prop :=
  s.pos = .opcodeFirst ∧ s.awaitsHost = true ∧ s.env.host = [] ∧ s.mutex = none ∧ s.b.prog = []
    ∧ (s.seq.phase = .idle ∨ s.seq.phase = .check)

/-- What a build must provide (R337, with R11 and R12). -/
def Build.Sound (b : Build) : Prop :=
  b.wf = true ∧ (∀ r, cfgWF (bootReg b r) = true) ∧ (∀ r, configured (bootReg b r) = true)
    ∧ (∀ r, (b.rail r).enPin ≠ .unassigned) ∧ b.vdd.pwmPin ≠ b.vpp.pwmPin

/-- The duty lies within the bounds of the configuration (R24, R137). -/
def DutyInBounds (g : RegState) : Prop := f32Le g.cfg.minDuty g.duty = true ∧ f32Le g.duty g.cfg.maxDuty = true

/-- What always holds of a regulator: its configuration is `UNCONFIGURED` or well formed, and well formed while it runs
(R21, R126, R127); the target is `>= 0` (R22); the duty is finite (R24). -/
def RegState.Inv (g : RegState) : Prop :=
  (g.cfg = .unconfigured ∨ cfgWF g.cfg = true) ∧ (g.running = true → cfgWF g.cfg = true)
    ∧ f32Ge g.target f32_0 = true ∧ f32Finite g.duty = true

/-- Which phases go with which status (R210, R211, R220 to R226). -/
def Seq.Inv (q : Seq) : Prop :=
  match q.status with
  | .stopped => q.phase = .idle
  | .starting => q.phase = .entry
  | .running =>
    q.phase = .check ∨ q.phase = .adjVdd ∨ q.phase = .sleep1 ∨ q.phase = .adjVpp ∨ q.phase = .sleep2
  | .stopping =>
    q.phase = .check ∨ q.phase = .adjVdd ∨ q.phase = .sleep1 ∨ q.phase = .adjVpp ∨ q.phase = .sleep2 ∨ q.phase = .exit

/-- Every listed NVM byte lies inside the storage (R38). -/
def NvmInside (s : State) : Prop := ∀ a, s.build.nvmSize ≤ a → s.nvmByte a = nvmDefault

/-- The invariant of the block: the NVM keeps its canonical form and its size, both regulators and the sequencer keep
theirs. -/
def State.Inv (s : State) : Prop :=
  nvmWf s.nvm = true ∧ NvmInside s ∧ (∀ r, (s.reg r).Inv) ∧ s.seq.Inv

end Sys2Proof.Machine
end

