-- ==== Sys2Proof/Certificates/Slice0/Obligations.lean ====
section
/-! DEFINITION. The statements for the provers. A result statement gives the next state WHOLE, so that it is the frame as
well: every field it does not write is as before, every NVM byte among them. Where an operation stores to the NVM, the
statement also says so byte by byte. -/

namespace Sys2Proof.Claims
open Sys2Proof.Machine

/-- Context `c` issues the operation, and the mutex does not make it wait (R72, R306). -/
def CanRun (c : Ctx) (s : State) : Prop := s.issuer = c ∧ (s.mutex = none ∨ s.mutex = some c)

/-- No operation and no list of operations stands before the context's own program. -/
def AtRest (c : Ctx) (s : State) : Prop := (s.ctx c).stuck = false ∧ (s.ctx c).wait = .none ∧ (s.ctx c).prog = []

/-- Every NVM byte reads as before. -/
def SameNvm (s t : State) : Prop := ∀ a, t.nvmByte a = s.nvmByte a

/-- Address `a` lies outside the five bytes of the record of rail `r` (R61, R66). -/
def OutsideRecord (r : Rail) (a : Nat) : Prop := a < Config.calBase r ∨ Config.calBase r + 5 ≤ a

/-- `n` adjusts of rail `r` by context B, one after the other. -/
def adjusts (r : Rail) : Nat → State → State
  | 0, s => s
  | n + 1, s =>
    let u := adjusts r n s
    match exec (.regAdjust r) { u with issuer := .b } with
    | .next t => t
    | .fault _ => u
    | .refused _ => u

/-- The move that gives context `c` its turn. -/
def turnOf : Ctx → Move
  | .a => .a
  | .b => .b

/-- Every routing bit the build puts at position `n` holds `b` (R10, R32). -/
def AllAt (s : State) (n : Fin 8) (b : Bool) : Prop :=
  let q := s.build.routeBit
  let t := s.railVpp.route
  (q.a9 = n → t.a9 = b) ∧ (q.a18 = n → t.a18 = b) ∧ (q.ce = n → t.ce = b) ∧ (q.oe = n → t.oe = b) ∧ (q.we = n → t.we = b)

/-- The operation drives `b` onto position `n` of the shift register and changes no other position (R169). Where the build
puts several routing bits at `n`, which no rule excludes, the premise is that they all hold `b` (log 30). -/
def DrivesBit (i : Instr) (s : State) (n : Fin 8) (b : Bool) : Prop :=
  ∃ t, exec i s = .next t ∧ (AllAt t n b → t.srOutput n = some b) ∧ ∀ m, m ≠ n → t.srOutput m = s.srOutput m

/-- The HOST supplies the characters of a text. -/
def chars (t : Text) : List HostEvent := t.map .char

end Sys2Proof.Claims

open Sys2Proof Sys2Proof.Machine Sys2Proof.Claims

/-! ### Encoding -/

/-- R81 to R85, R88, R93: no bit and no operand of an encoding is dropped. -/
def Obligations.DecodeOfEncodeIsIdentity : Prop := ∀ i : Instr, i.wf = true → decode (encode i) = .ok i

/-- R83 to R85: every code that decodes is the encoding of what it decodes to, and that is well formed. -/
def Obligations.EncodeOfDecodeIsIdentity : Prop :=
  ∀ (c : Code) (i : Instr), decode c = .ok i → encode i = c ∧ i.wf = true

/-- Words written out from R83 and R84, one or more of every family. -/
def Obligations.OpcodeWordsDecode : Prop :=
  decodeWire [0b00000000#8] = .ok .nop
    ∧ decodeWire [0b00000011#8, 0x01#8] = .ok (.enable .vpp 0x01#8)
    ∧ decodeWire [0b00001110#8, 0x05#8, 0x0A#8] = .ok (.saveCal .vdd 0x05#8 0x0A#8)
    ∧ decodeWire [0b00011010#8, 0x01#8] = .ok (.setVddOnVpp 0x01#8)
    ∧ decodeInternal ⟨0b10001000#8, .none⟩ = .ok (.regAdjust .vdd)
    ∧ decodeInternal ⟨0b10000111#8, .f32 0x40A00000#32⟩ = .ok (.regSetTarget .vpp 0x40A00000#32)
    ∧ decodeInternal ⟨0b10100010#8, .none⟩ = .ok (.railOn .vdd)
    ∧ decodeInternal ⟨0b10110001#8, .bool true⟩ = .ok (.vppSetA9 true)
    ∧ decodeInternal ⟨0b11000000#8, .none⟩ = .ok .railsStart
    ∧ decodeInternal ⟨0b11011100#8, .u32 0x2A#32⟩ = .ok (.seqPutParam 0x2A#32)

/-- R86: no opcode with bit 7 set is a wire command, and no selector with bit 7 clear is an internal operation. -/
def Obligations.SpacesNeverCross : Prop :=
  (∀ (s : Byte) (ps : List Byte), s.getLsbD 7 = true → decodeWire (s :: ps) = .error .unrecognizedOpcode) ∧
  (∀ (s : Byte) (x : Operand), s.getLsbD 7 = false → decodeInternal ⟨s, x⟩ = .error .unknownSelector)

/-- R270: the verdict on a frame, in every case. -/
def Obligations.FrameVerdictByCase : Prop :=
  (∀ t : Text, t.length < 2 → frameVerdict t = .reject) ∧
  (∀ (c1 c2 : Byte) (cs : Text),
    ((hexVal c1 = none ∨ hexVal c2 = none) → frameVerdict (c1 :: c2 :: cs) = .reject) ∧
    (∀ s, unHexPair c1 c2 = some s → wireRow s = none → frameVerdict (c1 :: c2 :: cs) = .nok) ∧
    (∀ s row, unHexPair c1 c2 = some s → wireRow s = some row →
      (cs.length ≠ 2 * row.params → frameVerdict (c1 :: c2 :: cs) = .nok) ∧
      ((∃ c ∈ cs, hexVal c = none) → frameVerdict (c1 :: c2 :: cs) = .nok) ∧
      (∀ ps : List Byte, cs.length = 2 * row.params → ps.length = row.params →
        (∀ (j : Nat) (p : Byte), ps[j]? = some p →
          ∃ x y, cs[2 * j]? = some x ∧ cs[2 * j + 1]? = some y ∧ unHexPair x y = some p) →
        frameVerdict (c1 :: c2 :: cs) = .accept (s :: ps))))

/-- R101: `100 v` rounded to the nearest integer, halves up, is `100 i + f`; saturated from 256 on, zero for what is not
positive. -/
def Obligations.EncFloatRoundsHundredths : Prop :=
  ∀ v : F32,
    ((f32IsNaN v = true ∨ f32Gt v f32_0 = false) → encFloat v = (0x00#8, 0x00#8)) ∧
    (f32Ge v f32_256 = true → encFloat v = (0xFF#8, 0x63#8)) ∧
    (f32Gt v f32_0 = true → f32Ge v f32_256 = false →
      let q := (200 * f32Mag v + 2 ^ 149) / 2 ^ 150
      (q < 25600 → 100 * (encFloat v).1.toNat + (encFloat v).2.toNat = q ∧ (encFloat v).2.toNat < 100) ∧
      (25600 ≤ q → encFloat v = (0xFF#8, 0x63#8)))

/-- R102: the worked examples; and for `0 <= v < 255.995` the value read back differs from `v` by at most 0.006 (in units
of 2^-149). -/
def Obligations.FloatCodecRoundTripWithin : Prop :=
  encFloat 0x414570A4#32 = (0x0C#8, 0x22#8) ∧ hexText [0x0C#8, 0x22#8] = [0x30#8, 0x43#8, 0x32#8, 0x32#8] ∧
  encFloat 0x40A80000#32 = (0x05#8, 0x19#8) ∧ decFloat 0x05#8 0x19#8 = 0x40A80000#32 ∧
  ∀ v : F32, f32Ge v f32_0 = true → 1000 * f32Val v < 255995 * 2 ^ 149 →
    let d := decFloat (encFloat v).1 (encFloat v).2
    f32IsNaN d = false ∧ 1000 * |f32Val d - f32Val v| ≤ 6 * 2 ^ 149

/-! ### Arithmetic -/

/-- R15: a result is rounded to the nearest binary32 value, ties to the even one, and is an infinity exactly from half
past the largest finite value on. -/
def Obligations.RoundingIsNearestTiesToEven : Prop :=
  ∀ (neg : Bool) (n d : Nat), 0 < d →
    let x := f32Round neg n d
    (f32Finite x = true ↔ 2 * n < (2 ^ 25 - 1) * 2 ^ 253 * d) ∧
    (f32Finite x = true → ∀ y : F32, f32Finite y = true →
      |(f32Mag x * d : Int) - n| ≤ |(f32Mag y * d : Int) - n| ∧
      (|(f32Mag x * d : Int) - n| = |(f32Mag y * d : Int) - n| → f32Mag y ≠ f32Mag x → f32Frac x % 2 = 0))

/-- R15: a finite sum, difference, product or quotient of finite values is the binary32 value nearest to the exact
result. -/
def Obligations.ArithmeticIsNearest : Prop :=
  ∀ x y z : F32, f32Finite x = true → f32Finite y = true → f32Finite z = true →
    (f32Finite (f32Add x y) = true →
      |f32Val (f32Add x y) - (f32Val x + f32Val y)| ≤ |f32Val z - (f32Val x + f32Val y)|) ∧
    (f32Finite (f32Sub x y) = true →
      |f32Val (f32Sub x y) - (f32Val x - f32Val y)| ≤ |f32Val z - (f32Val x - f32Val y)|) ∧
    (f32Finite (f32Mul x y) = true →
      |f32Val (f32Mul x y) * 2 ^ 149 - f32Val x * f32Val y| ≤ |f32Val z * 2 ^ 149 - f32Val x * f32Val y|) ∧
    (f32Val y ≠ 0 → f32Finite (f32Div x y) = true →
      |f32Val (f32Div x y) * f32Val y - f32Val x * 2 ^ 149| ≤ |f32Val z * f32Val y - f32Val x * 2 ^ 149|)

/-! ### The regulator -/

/-- R121, R123: what `WF` and `Configured` say, the values in units of 2^-149. -/
def Obligations.WellFormedAndConfigured : Prop :=
  ∀ c : RegulatorConfig,
    (cfgWF c = true ↔
      (f32Finite c.vref = true ∧ f32Finite c.divider = true ∧ f32Finite c.minDuty = true ∧ f32Finite c.maxDuty = true ∧
        f32Finite c.slowStep = true ∧ f32Finite c.fastStep = true ∧ f32Finite c.farTol = true ∧
        f32Finite c.tol = true) ∧
      0 < f32Val c.vref ∧ 0 < f32Val c.divider ∧ 0 ≤ f32Val c.minDuty ∧ f32Val c.minDuty ≤ f32Val c.maxDuty ∧
      f32Val c.maxDuty ≤ 100 * 2 ^ 149 ∧ 0 ≤ f32Val c.slowStep ∧ 0 ≤ f32Val c.fastStep ∧
      0 ≤ f32Val c.tol ∧ f32Val c.tol ≤ 2 ^ 149 ∧ 0 ≤ f32Val c.farTol ∧ f32Val c.farTol ≤ 2 ^ 149) ∧
    (configured c = true ↔ c.pin ≠ .unassigned ∧ c.freq ≠ 0#32 ∧ c.channel ≠ .unassigned)

/-- R126: refused, or the new configuration is written, after a stop under the old one when the pin or the reference
voltage of a running regulator changes. -/
def Obligations.RegConfigureResult : Prop :=
  ∀ (r : Rail) (cfg : RegulatorConfig) (s : State), CanRun .a s →
    let shared := cfg.pin ≠ .unassigned ∧ cfg.pin = (s.reg r.other).cfg.pin
    let g := s.reg r
    let stops := g.running = true ∧ (cfg.pin ≠ g.cfg.pin ∨ f32Eq cfg.vref g.cfg.vref = false)
    (cfgWF cfg = false → exec (.regConfigure r cfg) s = .next (s.refuse .illFormedConfig)) ∧
    (cfgWF cfg = true → shared → exec (.regConfigure r cfg) s = .next (s.refuse .sharedPwmPin)) ∧
    (cfgWF cfg = true → ¬shared → ¬stops →
      exec (.regConfigure r cfg) s = .next ((s.setReg r { g with cfg := cfg }).setResult .a .nothing)) ∧
    (cfgWF cfg = true → ¬shared → stops →
      exec (.regConfigure r cfg) s = .next
        (((s.setPwm r { s.pwm r with duty := g.cfg.minDuty, armed := false }).setReg r
          { g with cfg := cfg, duty := g.cfg.minDuty, running := false }).setResult .a .nothing))

/-- R127, R128: a start arms the output at the minimum duty, a stop disarms it there; both fail, writing nothing, without
pin, frequency or channel. -/
def Obligations.RegStartArmsRegStopDisarms : Prop :=
  ∀ (r : Rail) (s : State), CanRun .a s →
    let c := (s.reg r).cfg
    let ok := c.pin ≠ .unassigned ∧ c.freq ≠ 0#32 ∧ c.channel ≠ .unassigned
    (¬ok → exec (.regStart r) s = .next (s.setResult .a (.bool false)) ∧
      exec (.regStop r) s = .next (s.setResult .a (.bool false))) ∧
    (ok → exec (.regStart r) s = .next
        (((s.setPwm r { pin := c.pin, freq := c.freq, duty := c.minDuty, armed := true }).setReg r
          { s.reg r with duty := c.minDuty, running := true }).setResult .a (.bool true)) ∧
      exec (.regStop r) s = .next
        (((s.setPwm r { s.pwm r with duty := c.minDuty, armed := false }).setReg r
          { s.reg r with duty := c.minDuty, running := false }).setResult .a (.bool true)))

/-- R129. -/
def Obligations.RegSetTargetClamps : Prop :=
  ∀ (r : Rail) (v : F32) (s : State), CanRun .a s →
    let v' := if f32Lt v f32_0 = true then f32_0 else v
    (f32IsNaN v = true → exec (.regSetTarget r v) s = .next (s.refuse .nanOperand)) ∧
    (f32IsNaN v = false → f32Eq v' (s.reg r).target = true →
      exec (.regSetTarget r v) s = .next (s.setResult .a .nothing)) ∧
    (f32IsNaN v = false → f32Eq v' (s.reg r).target = false →
      exec (.regSetTarget r v) s = .next ((s.setReg r { s.reg r with target := v' }).setResult .a .nothing))

/-- R130 with R122: a stopped regulator's registers are zeroed; a running one takes the steps (1) to (5). The samples move
the ADC's codes and nothing else (R28, R70; log 4); the duty and the output are written only when the clamped duty differs. -/
def Obligations.RegAdjustResult : Prop :=
  ∀ (r : Rail) (s : State),
    (s.issuer = .a → exec (.regAdjust r) s = .next (s.refuse .contextViolation)) ∧
    (CanRun .b s →
      let g := s.reg r
      let c := g.cfg
      let n := s.build.adcAvgSamples
      let s1 := { s with env := { s.env with adc := s.env.adc.drop n, adcTick := s.env.adcTick + n } }
      let actual := f32Add (s.uncal r) g.cal
      let tMin := f32Mul g.target (f32Sub f32_1 c.tol)
      let tMax := f32Mul g.target (f32Add f32_1 c.tol)
      let fMin := f32Mul tMin (f32Sub f32_1 c.farTol)
      let fMax := f32Mul tMax (f32Add f32_1 c.farTol)
      let d := f32Clamp (stepDuty actual ⟨tMin, tMax, fMin, fMax⟩ g.duty c) c.minDuty c.maxDuty
      (g.running = false → exec (.regAdjust r) s = .next
        ((s.setReg r { g with measured := f32_0, duty := f32_0 }).setResult .b .nothing)) ∧
      (g.running = true → c.channel = .unassigned →
        exec (.regAdjust r) s = .next (s.refuse .unassignedChannel)) ∧
      (g.running = true → c.channel ≠ .unassigned → f32Eq d g.duty = true → exec (.regAdjust r) s = .next
        ((s1.setReg r { g with measured := actual }).setResult .b .nothing)) ∧
      (g.running = true → c.channel ≠ .unassigned → f32Eq d g.duty = false → exec (.regAdjust r) s = .next
        (((s1.setReg r { g with measured := actual, duty := d }).setPwm r { s.pwm r with duty := d }).setResult .b
          .nothing)))

/-- R124: with enough listed codes, the uncalibrated voltage is the scaled average of the next `ADC_AVG_SAMPLES` codes. -/
def Obligations.UncalIsScaledAverage : Prop :=
  ∀ (r : Rail) (s : State), s.build.adcAvgSamples ≤ s.env.adc.length →
    let n := s.build.adcAvgSamples
    let sum := ((s.env.adc.take n).map BitVec.toNat).sum
    s.uncal r =
      f32Mul (f32Div (f32Mul (f32Div (f32OfNat sum) (f32OfNat n)) (s.reg r).cfg.vref) (f32OfNat s.build.adcFullScale))
        (s.reg r).cfg.divider

/-- R125: the first condition that holds decides; the comparisons are strict; a NaN leaves the duty. -/
def Obligations.StepSelectionInOrder : Prop :=
  ∀ (a d0 : F32) (w : Bands) (c : RegulatorConfig),
    (f32Lt a w.fMin = true → stepDuty a w d0 c = f32Add d0 c.fastStep) ∧
    (f32Lt a w.fMin = false → f32Gt a w.fMax = true → stepDuty a w d0 c = f32Sub d0 c.fastStep) ∧
    (f32Lt a w.fMin = false → f32Gt a w.fMax = false → f32Lt a w.tMin = true →
      stepDuty a w d0 c = f32Add d0 c.slowStep) ∧
    (f32Lt a w.fMin = false → f32Gt a w.fMax = false → f32Lt a w.tMin = false → f32Gt a w.tMax = true →
      stepDuty a w d0 c = f32Sub d0 c.slowStep) ∧
    (f32Lt a w.fMin = false → f32Gt a w.fMax = false → f32Lt a w.tMin = false → f32Gt a w.tMax = false →
      stepDuty a w d0 c = d0) ∧
    (f32IsNaN a = true → stepDuty a w d0 c = d0)

/-- R131 to R136, R164, R182: the accessors return what the state holds and write nothing; the offset setter stores any f32
and writes nothing else. -/
def Obligations.AccessorsReadAndOffsetSetterWrites : Prop :=
  ∀ (r : Rail) (v : F32) (s : State), CanRun .a s →
    exec (.regSetCal r v) s = .next ((s.setReg r { s.reg r with cal := v }).setResult .a .nothing) ∧
    exec (.regGetCal r) s = .next (s.setResult .a (.f32 (s.reg r).cal)) ∧
    exec (.regGetTarget r) s = .next (s.setResult .a (.f32 (s.reg r).target)) ∧
    exec (.regGetV r) s = .next (s.setResult .a (.f32 (s.reg r).measured)) ∧
    exec (.regGetDuty r) s = .next (s.setResult .a (.f32 (s.reg r).duty)) ∧
    exec (.regIsRunning r) s = .next (s.setResult .a (.bool (s.reg r).running)) ∧
    exec (.railIsOn r) s = .next (s.setResult .a (.bool (s.enabled r))) ∧
    exec .railsIsRunning s = .next (s.setResult .a (.bool ((s.reg .vdd).running && (s.reg .vpp).running)))

/-- R137: after a successful start and any number of adjusts, with any ADC codes, the duty is within the bounds. -/
def Obligations.DutyBoundedAfterStartAndAdjusts : Prop :=
  ∀ (r : Rail) (s t : State) (n : Nat), s.mutex = none → s.issuer = .a → cfgWF (s.reg r).cfg = true →
    configured (s.reg r).cfg = true → exec (.regStart r) s = .next t →
    (t.reg r).cfg = (s.reg r).cfg ∧ ((adjusts r n t).reg r).cfg = (s.reg r).cfg ∧
      ((adjusts r n t).reg r).running = true ∧ DutyInBounds ((adjusts r n t).reg r)

/-- R24 (C5): the first adjust of a running regulator brings the duty into the bounds; from then on, in every step of the
block that leaves the regulator running under the same configuration, it stays within them. -/
def Obligations.RunningDutyBounded : Prop :=
  (∀ (r : Rail) (s t : State), CanRun .b s → (s.reg r).running = true → (s.reg r).cfg.channel ≠ .unassigned →
    (s.reg r).Inv → exec (.regAdjust r) s = .next t → DutyInBounds (t.reg r)) ∧
  (∀ (r : Rail) (s t : State), step s = .next t → (s.reg r).Inv → (s.reg r).running = true →
    DutyInBounds (s.reg r) → (t.reg r).running = true → (t.reg r).cfg = (s.reg r).cfg → DutyInBounds (t.reg r))

/-- R138: in band and within the duty bounds, an adjust writes `measured` only (and consumes its samples). The premises on
the configuration and the target hold in every reachable state (EveryStepKeepsStateInvariant). -/
def Obligations.SteadyStateHoldsDuty : Prop :=
  ∀ (r : Rail) (s : State), CanRun .b s → (s.reg r).running = true → (s.reg r).cfg.channel ≠ .unassigned →
    cfgWF (s.reg r).cfg = true → f32Ge (s.reg r).target f32_0 = true → DutyInBounds (s.reg r) →
    let w := bandsOf (s.reg r).target (s.reg r).cfg
    let actual := f32Add (s.uncal r) (s.reg r).cal
    f32Le w.tMin actual = true → f32Le actual w.tMax = true →
    exec (.regAdjust r) s = .next
      ((s.afterUncal.setReg r { s.reg r with measured := actual }).setResult .b .nothing)

/-- R139: below the band the duty is never lowered, above it never raised, for a duty that starts within its bounds. -/
def Obligations.AdjustMovesDutyTowardTarget : Prop :=
  ∀ (r : Rail) (s t : State), CanRun .b s → (s.reg r).running = true → (s.reg r).cfg.channel ≠ .unassigned →
    cfgWF (s.reg r).cfg = true → f32Ge (s.reg r).target f32_0 = true → DutyInBounds (s.reg r) →
    exec (.regAdjust r) s = .next t →
    let w := bandsOf (s.reg r).target (s.reg r).cfg
    let actual := f32Add (s.uncal r) (s.reg r).cal
    (f32Lt actual w.tMin = true → f32Le (s.reg r).duty (t.reg r).duty = true) ∧
    (f32Gt actual w.tMax = true → f32Le (t.reg r).duty (s.reg r).duty = true)

/-! ### The rails and the container -/

/-- R161: refused as R126 refuses; else the regulator is configured as `REG_CONFIGURE` configures it, and the rail's own
fields are written: the enable is cleared when its pin changes, VDD's routing onto VPP and VPP's five bits always. -/
def Obligations.RailConfigureResult : Prop :=
  ∀ (r : Rail) (rc : RailConfig) (s : State), CanRun .a s →
    let shared := rc.reg.pin ≠ .unassigned ∧ rc.reg.pin = (s.reg r.other).cfg.pin
    (cfgWF rc.reg = false → exec (.railConfigure r rc) s = .next (s.refuse .illFormedConfig)) ∧
    (cfgWF rc.reg = true → shared → exec (.railConfigure r rc) s = .next (s.refuse .sharedPwmPin)) ∧
    (cfgWF rc.reg = true → ¬shared → ∃ t, exec (.regConfigure r rc.reg) s = .next t ∧
      exec (.railConfigure r rc) s = .next
        (match r with
          | .vdd =>
            { t with railVdd :=
                { enPin := rc.enPin
                  enabled := if rc.enPin = s.railVdd.enPin then s.railVdd.enabled else false
                  onVppPin := rc.onVppPin, onVpp := false } }
          | .vpp =>
            { t with railVpp :=
                { enPin := rc.enPin
                  enabled := if rc.enPin = s.railVpp.enPin then s.railVpp.enabled else false
                  srPins := rc.srPins, route := ⟨false, false, false, false, false⟩ } }))

/-- R160, R162, R163, R165: on, off and toggle fail on an unconfigured rail, and else write the enable only. -/
def Obligations.RailEnableOperations : Prop :=
  ∀ (r : Rail) (s : State), CanRun .a s →
    let ok := s.enPin r ≠ .unassigned ∧ configured (s.reg r).cfg = true
    (¬ok → exec (.railOn r) s = .next (s.setResult .a (.bool false)) ∧
      exec (.railOff r) s = .next (s.setResult .a (.bool false)) ∧
      exec (.railToggle r) s = .next (s.setResult .a (.bool false))) ∧
    (ok → exec (.railOn r) s = .next ((s.setEnabled r true).setResult .a (.bool true)) ∧
      exec (.railOff r) s = .next ((s.setEnabled r false).setResult .a (.bool true)) ∧
      exec (.railToggle r) s = .next ((s.setEnabled r (!s.enabled r)).setResult .a (.bool true)))

/-- R166: the offset is zeroed and the target set as R129 sets it (left when equal); the NVM is not written. -/
def Obligations.RailInitCalBeginsSession : Prop :=
  ∀ (r : Rail) (ref : F32) (s : State), CanRun .a s →
    let v := if f32Lt ref f32_0 = true then f32_0 else ref
    let g := s.reg r
    (f32IsNaN ref = true → exec (.railInitCal r ref) s = .next (s.refuse .nanOperand)) ∧
    (f32IsNaN ref = false → f32Eq v g.target = true → exec (.railInitCal r ref) s = .next
      ((s.setReg r { g with cal := f32_0 }).setResult .a .nothing)) ∧
    (f32IsNaN ref = false → f32Eq v g.target = false → exec (.railInitCal r ref) s = .next
      ((s.setReg r { g with cal := f32_0, target := v }).setResult .a .nothing))

/-- R167, R63, R61, R62: fails on an unconfigured rail; else the fresh sample gives the offset, which goes to the register
and, as five bytes, to the record; no other byte of the NVM changes. -/
def Obligations.RailSaveCalStoresRecord : Prop :=
  ∀ (r : Rail) (m : F32) (s : State), CanRun .a s → nvmWf s.nvm = true → 13 ≤ s.build.nvmSize →
    let ok := s.enPin r ≠ .unassigned ∧ configured (s.reg r).cfg = true
    let off := f32Sub m (s.uncal r)
    let b0 := off.extractLsb' 0 8
    let b1 := off.extractLsb' 8 8
    let b2 := off.extractLsb' 16 8
    let b3 := off.extractLsb' 24 8
    (¬ok → exec (.railSaveCal r m) s = .next (s.setResult .a (.bool false))) ∧
    (ok → ∃ t, exec (.railSaveCal r m) s = .next t ∧
      { t with nvm := s.nvm } =
        (s.afterUncal.setReg r { s.reg r with cal := off }).setResult .a (.bool true) ∧
      t.nvmByte (Config.calBase r) = b0 ∧ t.nvmByte (Config.calBase r + 1) = b1 ∧
      t.nvmByte (Config.calBase r + 2) = b2 ∧ t.nvmByte (Config.calBase r + 3) = b3 ∧
      t.nvmByte (Config.calBase r + 4) = b0 + b1 + b2 + b3 ∧
      ∀ a, OutsideRecord r a → t.nvmByte a = s.nvmByte a)

/-- R168, R64: the offset register gets the record's offset, or `0.0` when the checksum does not match or the offset is
not finite; the result says which. -/
def Obligations.RailLoadCalChecksRecord : Prop :=
  ∀ (r : Rail) (s : State), CanRun .a s → 13 ≤ s.build.nvmSize →
    let b (k : Nat) := s.nvmByte (Config.calBase r + k)
    let v : F32 := b 3 ++ b 2 ++ b 1 ++ b 0
    (b 4 = b 0 + b 1 + b 2 + b 3 ∧ f32Finite v = true →
      exec (.railLoadCal r) s = .next ((s.setReg r { s.reg r with cal := v }).setResult .a (.bool true))) ∧
    (¬(b 4 = b 0 + b 1 + b 2 + b 3 ∧ f32Finite v = true) →
      exec (.railLoadCal r) s = .next ((s.setReg r { s.reg r with cal := f32_0 }).setResult .a (.bool false)))

/-- R16, R66: a build whose storage is below 13 bytes refuses every record access, and no NVM byte changes. -/
def Obligations.RecordBeyondStorageRefused : Prop :=
  ∀ (r : Rail) (m : F32) (p1 p2 : Byte) (s : State), CanRun .a s → s.build.nvmSize < 13 →
    exec (.railLoadCal r) s = .next (s.refuse .nvmRange) ∧
    (s.enPin r ≠ .unassigned → configured (s.reg r).cfg = true →
      (∃ t, exec (.railSaveCal r m) s = .next t ∧ t.refusals = s.refusals ++ [.nvmRange] ∧ t.nvm = s.nvm) ∧
      (∃ t, exec (.saveCal r p1 p2) s = .next t ∧ t.refusals = s.refusals ++ [.nvmRange] ∧ t.nvm = s.nvm ∧
        t.out = s.out))

/-- R65: a finite offset, saved, loads bit for bit. -/
def Obligations.CalibrationRecordRoundTrip : Prop :=
  ∀ (r : Rail) (v : F32) (s : State), nvmWf s.nvm = true → f32Finite v = true → (s.saveRecord r v).loadRecord r = v

/-- R62: a saved record's checksum is the sum of the four offset bytes; after a change to any single byte it is not, and
the load yields `0.0` (R64). -/
def Obligations.SingleByteCorruptionDetected : Prop :=
  ∀ (r : Rail) (v : F32) (s : State), nvmWf s.nvm = true →
    let u := s.saveRecord r v
    let byte (t : State) (j : Nat) : Byte := t.nvmByte (Config.calBase r + j)
    byte u 4 = byte u 0 + byte u 1 + byte u 2 + byte u 3 ∧
    ∀ (k : Nat) (x : Byte), k < 5 → x ≠ byte u k →
      let t := { u with nvm := nvmSet u.nvm (Config.calBase r + k) x }
      byte t 4 ≠ byte t 0 + byte t 1 + byte t 2 + byte t 3 ∧ t.loadRecord r = f32_0

/-- R176: a save and then a load of the untouched record set the offset `m - u` and answer true; with one byte changed in
between, `0.0` and false. -/
def Obligations.CalibrationSessionReloads : Prop :=
  ∀ (r : Rail) (m : F32) (s t : State), CanRun .a s → nvmWf s.nvm = true → 13 ≤ s.build.nvmSize →
    s.enPin r ≠ .unassigned → configured (s.reg r).cfg = true → f32Finite (f32Sub m (s.uncal r)) = true →
    exec (.railSaveCal r m) s = .next t →
    (∃ u, exec (.railLoadCal r) t = .next u ∧ (u.reg r).cal = f32Sub m (s.uncal r) ∧ u.a.result = .bool true) ∧
    (∀ (k : Nat) (x : Byte), k < 5 → x ≠ t.nvmByte (Config.calBase r + k) →
      ∃ u, exec (.railLoadCal r) { t with nvm := nvmSet t.nvm (Config.calBase r + k) x } = .next u ∧
        (u.reg r).cal = f32_0 ∧ u.a.result = .bool false)

/-- R169 to R175: each routing operation writes its own bit, and fails without all three shift-register pins; VDD's routing
onto VPP writes its bit, and fails without its pin. R32, R169: the routing operation drives its value onto its bit's
`ROUTE_BIT` position and changes no other. -/
def Obligations.VariantOutputsWriteTheirBit : Prop :=
  ∀ (b : Bool) (s : State), CanRun .a s →
    let p := s.railVpp.srPins
    let ok := p.data ≠ .unassigned ∧ p.clock ≠ .unassigned ∧ p.latch ≠ .unassigned
    let fail := s.setResult .a (.bool false)
    let write (t : Route) := { s with railVpp := { s.railVpp with route := t } }.setResult .a (.bool true)
    (¬ok → exec (.vppSetA9 b) s = .next fail ∧ exec (.vppSetA18 b) s = .next fail ∧ exec (.vppSetCe b) s = .next fail ∧
      exec (.vppSetOe b) s = .next fail ∧ exec (.vppSetWe b) s = .next fail) ∧
    (ok → exec (.vppSetA9 b) s = .next (write { s.railVpp.route with a9 := b }) ∧
      exec (.vppSetA18 b) s = .next (write { s.railVpp.route with a18 := b }) ∧
      exec (.vppSetCe b) s = .next (write { s.railVpp.route with ce := b }) ∧
      exec (.vppSetOe b) s = .next (write { s.railVpp.route with oe := b }) ∧
      exec (.vppSetWe b) s = .next (write { s.railVpp.route with we := b })) ∧
    (ok → let q := s.build.routeBit
      DrivesBit (.vppSetA9 b) s q.a9 b ∧ DrivesBit (.vppSetA18 b) s q.a18 b ∧ DrivesBit (.vppSetCe b) s q.ce b ∧
      DrivesBit (.vppSetOe b) s q.oe b ∧ DrivesBit (.vppSetWe b) s q.we b) ∧
    (s.railVdd.onVppPin = .unassigned → exec (.vddSetOnVpp b) s = .next fail) ∧
    (s.railVdd.onVppPin ≠ .unassigned → exec (.vddSetOnVpp b) s = .next
      ({ s with railVdd := { s.railVdd with onVpp := b } }.setResult .a (.bool true)))

/-- R180, R181: both rails are attempted, VDD first, each half as its own operation; the result is the conjunction. -/
def Obligations.ContainerAttemptsBothRails : Prop :=
  ∀ s : State, CanRun .a s →
    let x := configured (s.reg .vdd).cfg
    let y := configured (s.reg .vpp).cfg
    (∃ u v, exec (.regStart .vdd) s = .next u ∧ exec (.regStart .vpp) u = .next v ∧
      exec .railsStart s = .next (v.setResult .a (.bool (x && y))) ∧
      (x = true → (v.reg .vdd).running = true ∧ (v.pwm .vdd).armed = true) ∧
      (y = true → (v.reg .vpp).running = true ∧ (v.pwm .vpp).armed = true)) ∧
    (∃ u v, exec (.regStop .vdd) s = .next u ∧ exec (.regStop .vpp) u = .next v ∧
      exec .railsStop s = .next (v.setResult .a (.bool (x && y))) ∧
      (x = true → (v.reg .vdd).running = false ∧ (v.pwm .vdd).armed = false) ∧
      (y = true → (v.reg .vpp).running = false ∧ (v.pwm .vpp).armed = false))

/-! ### The sequencer -/

/-- R211, R212: a launch is a no-op unless Stopped, else Starting, both channels emptied, B at `Entry`, and A holds; a stop
is a no-op unless Running, else Stopping, and A holds. -/
def Obligations.SeqLaunchAndStopHold : Prop :=
  ∀ s : State, s.issuer = .a →
    (s.seq.status ≠ .stopped → exec .seqLaunch s = .next (s.setResult .a .nothing)) ∧
    (s.seq.status = .stopped → exec .seqLaunch s = .next
      ({ s with seq := { status := .starting, phase := .entry }, fifoAtoB := none, fifoBtoA := none }.setWait .a
        .launch)) ∧
    (s.seq.status ≠ .running → exec .seqStop s = .next (s.setResult .a .nothing)) ∧
    (s.seq.status = .running → exec .seqStop s = .next
      ({ s with seq := { s.seq with status := .stopping } }.setWait .a .stop))

/-- R213, R214: either context, whoever owns the mutex. -/
def Obligations.SeqStatusReads : Prop :=
  ∀ s : State,
    exec .seqIsStopRequested s = .next (s.setResult s.issuer (.bool (s.seq.status == .stopping))) ∧
    exec .seqGetStatus s = .next (s.setResult s.issuer (.status s.seq.status)) ∧
    CoreStatus.code .stopped = 0 ∧ CoreStatus.code .starting = 1 ∧ CoreStatus.code .running = 2 ∧
    CoreStatus.code .stopping = 3

/-- R216, R217: the lock is taken when free, held while the other context owns it, stuck for the owner; only the owner
unlocks, another is refused. -/
def Obligations.SeqLockAndUnlock : Prop :=
  ∀ s : State,
    let c := s.issuer
    (s.mutex = none → exec .seqLock s = .next ({ s with mutex := some c }.setResult c .nothing)) ∧
    (s.mutex = some c.other → exec .seqLock s = .next (s.setWait c .lock)) ∧
    (s.mutex = some c → exec .seqLock s = .next (s.setStuck c)) ∧
    (s.mutex = some c → exec .seqUnlock s = .next ({ s with mutex := none }.setResult c .nothing)) ∧
    (s.mutex ≠ some c → exec .seqUnlock s = .next (s.refuse .unlockNotOwner))

/-- R218, R219: no-ops unless Running; a put waits only while its channel is full, a get only while its channel is
empty. -/
def Obligations.SeqChannels : Prop :=
  ∀ (w : U32) (s : State),
    let c := s.issuer
    (s.seq.status ≠ .running → exec (.seqPutParam w) s = .next (s.setResult c .nothing) ∧
      exec .seqGetParam s = .next (s.setResult c .noValue)) ∧
    (s.seq.status = .running →
      (s.outFifo c = none → exec (.seqPutParam w) s = .next ((s.setOutFifo c (some w)).setResult c .nothing)) ∧
      (s.outFifo c ≠ none → exec (.seqPutParam w) s = .next (s.setWait c (.put w))) ∧
      (∀ x, s.inFifo c = some x → exec .seqGetParam s = .next ((s.setInFifo c none).setResult c (.u32 x))) ∧
      (s.inFifo c = none → exec .seqGetParam s = .next (s.setWait c .get)))

/-- R215, R216, R218, R219, R16: while a context is inside a blocking operation its only step is the completion, which
comes exactly when the lifting condition holds; a stuck context (log 18) has no step. The write of the result field is the
model's own (log 9). -/
def Obligations.HeldOperationsComplete : Prop :=
  ∀ (c : Ctx) (s : State),
    let done (t : State) (res : Result) := some (Host.Outcome.next ((t.setWait c .none).setResult c res))
    ((s.ctx c).stuck = true → ctxMove c s = none) ∧
    ((s.ctx c).stuck = false →
      ((s.ctx c).wait = .launch →
        ctxMove c s = if s.seq.status = .running then done s .nothing else none) ∧
      ((s.ctx c).wait = .stop →
        ctxMove c s = if s.seq.status = .stopped then done s .nothing else none) ∧
      ((s.ctx c).wait = .lock →
        ctxMove c s = if s.mutex = none then done { s with mutex := some c } .nothing else none) ∧
      (∀ w, (s.ctx c).wait = .put w →
        ctxMove c s = if s.outFifo c = none then done (s.setOutFifo c (some w)) .nothing else none) ∧
      ((s.ctx c).wait = .get → s.inFifo c = none → ctxMove c s = none) ∧
      (∀ x, (s.ctx c).wait = .get → s.inFifo c = some x → ctxMove c s = done (s.setInFifo c none) (.u32 x)))

/-- R210: from a state whose phase fits its status, every step but the reset moves the status along the cycle or not at
all, each move by the step R210 names: the launch and the stop leave A in their hold, the entry and the exit are B's. -/
def Obligations.StatusMovesOnlyAlongCycle : Prop :=
  ∀ s t : State, step s = .next t → s.seq.Inv → s.nextMove ≠ .reset →
    t.seq.status = s.seq.status ∨
    (s.seq.status = .stopped ∧ t.seq.status = .starting ∧ s.nextMove = .a ∧ t.a.wait = .launch) ∨
    (s.seq.status = .starting ∧ t.seq.status = .running ∧ s.nextMove = .b ∧ s.seq.phase = .entry) ∨
    (s.seq.status = .running ∧ t.seq.status = .stopping ∧ s.nextMove = .a ∧ t.a.wait = .stop) ∨
    (s.seq.status = .stopping ∧ t.seq.status = .stopped ∧ s.nextMove = .b ∧ s.seq.phase = .exit)

/-- R220 to R227: B's loop steps by phase; the two adjust steps perform `REG_ADJUST` of their rail as context B and go on to
the next phase, and hold while A owns the mutex (R72). -/
def Obligations.LoopStepsByPhase : Prop :=
  ∀ s : State, AtRest .b s →
    let go (q : Seq) := some (Host.Outcome.next { s with seq := q })
    let adj (r : Rail) (p : Phase) := some (exec (.regAdjust r) { s with seq := ⟨s.seq.status, p⟩, issuer := .b })
    (s.seq.phase = .idle → ctxMove .b s = none) ∧
    (s.seq.phase = .entry → ctxMove .b s = go ⟨.running, .check⟩) ∧
    (s.seq.phase = .check → s.seq.status = .stopping → ctxMove .b s = go ⟨.stopping, .exit⟩) ∧
    (s.seq.phase = .check → s.seq.status ≠ .stopping → ctxMove .b s = go ⟨s.seq.status, .adjVdd⟩) ∧
    (s.seq.phase = .adjVdd → s.mutex ≠ some .a → ctxMove .b s = adj .vdd .sleep1) ∧
    (s.seq.phase = .sleep1 → ctxMove .b s = go ⟨s.seq.status, .adjVpp⟩) ∧
    (s.seq.phase = .adjVpp → s.mutex ≠ some .a → ctxMove .b s = adj .vpp .sleep2) ∧
    (s.seq.phase = .sleep2 → ctxMove .b s = go ⟨s.seq.status, .check⟩) ∧
    (s.seq.phase = .exit → ctxMove .b s = go ⟨.stopped, .idle⟩) ∧
    (s.seq.phase = .adjVdd ∨ s.seq.phase = .adjVpp → s.mutex = some .a → ctxMove .b s = none)

/-- R346: a stop held by A while A owns the mutex. With B at an adjust step neither ever moves; with B at `Sleep1` only
B's `SLEEP1` step is left, after which neither does; from `Sleep2` and from `Check` B reaches its exit without the mutex, and
the stop completes. That a step of a machine in which no agent can ever move answers the fault `deadlock`, and that a turn
without an enabled step changes nothing else, is the model's choice (log 3). -/
def Obligations.StopUnderOwnMutexDeadlocks : Prop :=
  ∀ s : State, s.a.wait = .stop → s.mutex = some .a → s.seq.status = .stopping → AtRest .b s →
    (s.seq.phase = .adjVdd ∨ s.seq.phase = .adjVpp → s.nextMove ≠ .reset → step s = .fault .deadlock) ∧
    (s.seq.phase = .sleep1 →
      (s.nextMove = .a → step s = .next s.popMove) ∧
      (s.nextMove = .b → ∃ t, step s = .next t ∧ t = { s.popMove with seq := ⟨.stopping, .adjVpp⟩ } ∧
        (t.nextMove ≠ .reset → step t = .fault .deadlock))) ∧
    (∀ later, s.a.stuck = false → s.seq.phase = .check → s.env.sched = [.b, .b, .a] ++ later →
      ∃ t, Host.Core.run Sys2Proof.core 3 s = .next t ∧ t.seq = ⟨.stopped, .idle⟩ ∧ t.a.wait = .none ∧
        t.mutex = some .a) ∧
    (∀ later, s.a.stuck = false → s.seq.phase = .sleep2 → s.env.sched = [.b, .b, .b, .a] ++ later →
      ∃ t, Host.Core.run Sys2Proof.core 4 s = .next t ∧ t.seq = ⟨.stopped, .idle⟩ ∧ t.a.wait = .none ∧
        t.mutex = some .a)

/-- R72, R71: an operation on shared state whose mutex the other context owns changes nothing, and one that runs leaves
the mutex as it was. A wire command is context A's. -/
def Obligations.SharedOperationsRespectMutex : Prop :=
  ∀ (i : Instr) (s t : State), needsMutex i = true → exec i s = .next t →
    t.mutex = s.mutex ∧
    ((ctxAllowed i).admits s.issuer = true → s.mutex = some s.issuer.other → t = s)

/-- R306 and the "Ctx" column of R84: an internal operation a context may not issue is refused, and nothing else
changes. -/
def Obligations.ForeignContextRefused : Prop :=
  (∀ (r : Rail) (s : State), s.issuer = .a → exec (.regAdjust r) s = .next (s.refuse .contextViolation)) ∧
  (∀ (is : Issue) (i : Instr) (s : State), decodeInternal is = .ok i → s.issuer = .b →
    (∀ r, i ≠ .regAdjust r) → (∀ w, i ≠ .seqPutParam w) →
    i ≠ .seqIsStopRequested → i ≠ .seqGetStatus → i ≠ .seqLock → i ≠ .seqUnlock → i ≠ .seqGetParam →
    exec i s = .next (s.refuse .contextViolation))

/-! ### Host commands -/

/-- R256, R257, R259, R260, R261: the handlers of NOP, ENABLE and the three reads. -/
def Obligations.EnableAndReadHandlers : Prop :=
  ∀ (r : Rail) (p1 : Byte) (s : State), s.mutex ≠ some .b →
    let ok := s.enPin r ≠ .unassigned ∧ configured (s.reg r).cfg = true
    let floatText (v : F32) : Text := [0x4F#8, 0x4B#8] ++ hexPair (encFloat v).1 ++ hexPair (encFloat v).2
    exec .nop s = .next (s.emit [0x4F#8, 0x4B#8]) ∧
    (ok → exec (.enable r p1) s = .next ((s.setEnabled r (p1 != 0#8)).emit [0x4F#8, 0x4B#8])) ∧
    (¬ok → exec (.enable r p1) s = .next (s.emit [0x4E#8, 0x4F#8, 0x4B#8])) ∧
    exec (.getV r) s = .next (s.emit (floatText (s.reg r).measured)) ∧
    exec (.getDuty r) s = .next (s.emit (floatText (s.reg r).duty)) ∧
    exec (.getCal r) s = .next (s.emit (floatText (s.reg r).cal))

/-- R258 (with R99): a wire target is never negative and never a NaN, so it is written as it is decoded, or left when
equal. -/
def Obligations.SetVHandler : Prop :=
  ∀ (r : Rail) (p1 p2 : Byte) (s : State), s.mutex ≠ some .b →
    let v := f32Add (f32OfNat p1.toNat) (f32Div (f32OfNat p2.toNat) f32_100)
    f32Ge v f32_0 = true ∧
    (f32Eq v (s.reg r).target = true → exec (.setV r p1 p2) s = .next (s.emit okText)) ∧
    (f32Eq v (s.reg r).target = false →
      exec (.setV r p1 p2) s = .next ((s.setReg r { s.reg r with target := v }).emit okText))

/-- R262, R263: the calibration handlers perform the rail operation of context A and answer. A NaN `CAL_REFERENCE` is
refused without a response (the model's reading, log 20). -/
def Obligations.CalibrationHandlers : Prop :=
  ∀ (r : Rail) (p1 p2 : Byte) (s : State), CanRun .a s →
    let ref := (s.build.rail r).calReference
    let v := if f32Lt ref f32_0 = true then f32_0 else ref
    let g := s.reg r
    let ok := s.enPin r ≠ .unassigned ∧ configured g.cfg = true
    (f32IsNaN ref = true → exec (.initCal r) s = .next (s.refuse .nanOperand)) ∧
    (f32IsNaN ref = false → f32Eq v g.target = true →
      exec (.initCal r) s = .next ((s.setReg r { g with cal := f32_0 }).emit okText)) ∧
    (f32IsNaN ref = false → f32Eq v g.target = false →
      exec (.initCal r) s = .next ((s.setReg r { g with cal := f32_0, target := v }).emit okText)) ∧
    (¬ok → exec (.saveCal r p1 p2) s = .next (s.emit nokText)) ∧
    (ok → 13 ≤ s.build.nvmSize → ∃ t, exec (.railSaveCal r (decFloat p1 p2)) s = .next t ∧
      exec (.saveCal r p1 p2) s = .next { t with a := s.a, out := s.out ++ [okText] } ∧
      ∀ a, OutsideRecord r a → t.nvmByte a = s.nvmByte a)

/-- R264 to R269: the six switches answer `OK` and write their bit, or `NOK` and write nothing; the five routing switches
drive their bit's position and no other (R32, R169). -/
def Obligations.SwitchHandlers : Prop :=
  ∀ (p1 : Byte) (s : State), s.mutex ≠ some .b →
    let p := s.railVpp.srPins
    let ok := p.data ≠ .unassigned ∧ p.clock ≠ .unassigned ∧ p.latch ≠ .unassigned
    let b := p1 != 0#8
    let nok := s.emit nokText
    let write (t : Route) := { s with railVpp := { s.railVpp with route := t } }.emit okText
    (¬ok → exec (.setA9 p1) s = .next nok ∧ exec (.setA18 p1) s = .next nok ∧ exec (.setCe p1) s = .next nok ∧
      exec (.setOe p1) s = .next nok ∧ exec (.setWe p1) s = .next nok) ∧
    (ok → exec (.setA9 p1) s = .next (write { s.railVpp.route with a9 := b }) ∧
      exec (.setA18 p1) s = .next (write { s.railVpp.route with a18 := b }) ∧
      exec (.setCe p1) s = .next (write { s.railVpp.route with ce := b }) ∧
      exec (.setOe p1) s = .next (write { s.railVpp.route with oe := b }) ∧
      exec (.setWe p1) s = .next (write { s.railVpp.route with we := b })) ∧
    (ok → let q := s.build.routeBit
      DrivesBit (.setA9 p1) s q.a9 b ∧ DrivesBit (.setA18 p1) s q.a18 b ∧ DrivesBit (.setCe p1) s q.ce b ∧
      DrivesBit (.setOe p1) s q.oe b ∧ DrivesBit (.setWe p1) s q.we b) ∧
    (s.railVdd.onVppPin = .unassigned → exec (.setVddOnVpp p1) s = .next nok) ∧
    (s.railVdd.onVppPin ≠ .unassigned → exec (.setVddOnVpp p1) s = .next
      ({ s with railVdd := { s.railVdd with onVpp := b } }.emit okText))

/-- R252, R254: the two characters of an opcode. A timeout or a non-hex pair is dropped without a response; an
unrecognized opcode is answered `NOK`, with no further character read.
That each event is read in a step of its own and the `NOK` goes out in the step of the second character is the model's
choice (log 16), and so is that there is no step while the HOST supplies no event (log 5). -/
def Obligations.OpcodeReading : Prop :=
  ∀ (c1 c2 : Byte) (rest : List HostEvent) (s : State), AtRest .a s →
    let at_ (p : APos) := { s with pos := p, env := { s.env with host := rest } }
    (s.pos = .opcodeFirst → s.env.host = .char c1 :: rest →
      ctxMove .a s = some (.next (at_ (.opcodeSecond c1)))) ∧
    (s.pos = .opcodeFirst ∨ s.pos = .opcodeSecond c1 → s.env.host = .timeout :: rest →
      ctxMove .a s = some (.next (at_ .opcodeFirst))) ∧
    (s.pos = .opcodeSecond c1 → s.env.host = .char c2 :: rest →
      ((hexVal c1 = none ∨ hexVal c2 = none) → ctxMove .a s = some (.next (at_ .opcodeFirst))) ∧
      (∀ op, unHexPair c1 c2 = some op → wireRow op = none →
        ctxMove .a s = some (.next ((at_ .opcodeFirst).emit nokText))) ∧
      (∀ op row, unHexPair c1 c2 = some op → wireRow op = some row →
        ctxMove .a s = some (.next (at_ (if row.params = 0 then .handler [op] else .params op []))))) ∧
    ((s.pos = .opcodeFirst ∨ s.pos = .opcodeSecond c1) → s.env.host = [] → ctxMove .a s = none)

/-- R253: the parameter characters. A timeout drops the whole command without a response; with all `2P` there, a non-hex
character is answered `NOK` and no handler runs, else parameter byte `j` is the pair of characters `2j-1` and `2j` and the
handler is next.
That each character is read in a step of its own and the `NOK` goes out in the step of the last one is the model's choice
(log 16). -/
def Obligations.ParameterReading : Prop :=
  ∀ (op c : Byte) (row : WireRow) (cs : Text) (rest : List HostEvent) (s : State), AtRest .a s →
    wireRow op = some row → s.pos = .params op cs → cs.length < 2 * row.params →
    let at_ (p : APos) := { s with pos := p, env := { s.env with host := rest } }
    (s.env.host = .timeout :: rest → ctxMove .a s = some (.next (at_ .opcodeFirst))) ∧
    (s.env.host = .char c :: rest → cs.length + 1 < 2 * row.params →
      ctxMove .a s = some (.next (at_ (.params op (cs ++ [c]))))) ∧
    (s.env.host = .char c :: rest → cs.length + 1 = 2 * row.params →
      ((∃ x ∈ cs ++ [c], hexVal x = none) → ctxMove .a s = some (.next ((at_ .opcodeFirst).emit nokText))) ∧
      (∀ ps : List Byte, ps.length = row.params →
        (∀ (j : Nat) (p : Byte), ps[j]? = some p → ∃ x y, (cs ++ [c])[2 * j]? = some x ∧
          (cs ++ [c])[2 * j + 1]? = some y ∧ unHexPair x y = some p) →
        ctxMove .a s = some (.next (at_ (.handler (op :: ps))))))

/-- R89, R250 to R253: the text of any wire command, read by the dispatcher with A moving alone, leaves exactly that
command's handler next, and consumes exactly its characters.
The number of steps and the handler as a step still to come are the model's choice (log 16), and so is the HOST's supply as
a list (log 5). -/
def Obligations.CommandTextReachesHandler : Prop :=
  ∀ (bytes : List Byte) (i : Instr) (s : State) (rest : List HostEvent) (later : List Move),
    decodeWire bytes = .ok i → AtRest .a s → s.pos = .opcodeFirst →
    s.env.host = chars (hexText bytes) ++ rest → s.env.sched = List.replicate (2 * bytes.length) .a ++ later →
    Host.Core.run Sys2Proof.core (2 * bytes.length) s = .next
      { s with pos := .handler bytes
               env := { s.env with host := rest, sched := later, tick := s.env.tick + 2 * bytes.length } }

/-! ### One step, reset, boot -/

/-- A step runs the operation it finds: the head of a context's list (R80, R84), the dispatcher's complete command (R255),
a boot step's operation (R335). What the step adds is the use of its move, of the issue, and A's new position. -/
def Obligations.StepRunsDecodedOperation : Prop :=
  (∀ (c : Ctx) (is : Issue) (rest : List Issue) (i : Instr) (s : State), s.nextMove = turnOf c →
    (s.ctx c).stuck = false → (s.ctx c).wait = .none → (s.ctx c).prog = is :: rest → decodeInternal is = .ok i →
    (s.mutex = none ∨ s.mutex = some c) →
    step s = exec i { s.popMove.setCtx c { s.ctx c with prog := rest } with issuer := c }) ∧
  (∀ (bytes : List Byte) (i : Instr) (s : State), s.nextMove = .a → AtRest .a s → s.pos = .handler bytes →
    decodeWire bytes = .ok i → s.mutex ≠ some .b →
    step s = exec i { s.popMove with pos := .opcodeFirst, issuer := .a }) ∧
  (∀ (k : BootStep) (s : State), s.nextMove = .a → AtRest .a s → s.pos = .boot k → s.mutex ≠ some .b →
    step s = exec (bootInstr s.build k) { s.popMove with pos := afterBoot k, issuer := .a })

/-- R86, R93: an issue with an unknown selector is refused and marked; one whose operand is not of its row's type is a
model type error. -/
def Obligations.StepRejectsBadIssue : Prop :=
  ∀ (c : Ctx) (is : Issue) (rest : List Issue) (s : State), s.nextMove = turnOf c →
    (s.ctx c).stuck = false → (s.ctx c).wait = .none → (s.ctx c).prog = is :: rest →
    (internalRow is.selector = none →
      step s = .next ((s.popMove.setCtx c { s.ctx c with prog := rest }).refuse .unknownSelector)) ∧
    (decodeInternal is = .error .operandType → step s = .refused .operandType)

/-- The host's placing (log 14, log 15): the very next step runs the operation of the word, on a state whose rails, NVM,
sequencer, output and marks are those given. -/
def Obligations.PlacedWordRunsNext : Prop :=
  ∀ (nbits w : Nat) (i : Instr) (s : State), decodeTableWord nbits w = some i →
    ∃ u, step (s.withFetchWord nbits w) = exec i u ∧ (ctxAllowed i).admits u.issuer = true ∧
      u.mayTake u.issuer = true ∧ (∀ r, u.reg r = s.reg r) ∧ (∀ r, u.pwm r = s.pwm r) ∧ u.railVdd = s.railVdd ∧
      u.railVpp = s.railVpp ∧ u.seq = s.seq ∧ u.nvm = s.nvm ∧ u.out = s.out ∧ u.refusals = s.refusals ∧
      u.build = s.build

/-- R45: the reset value of every piece of the spec's state, for every build, NVM and environment; R330, R331, R333: a reset
in any state gives these values and changes no NVM byte. -/
def Obligations.ResetValues : Prop :=
  (∀ s : State, s.nextMove = .reset → ∃ t env, step s = .next t ∧ t = .resetOf s.build s.nvm env ∧ CleanReset t ∧
    SameNvm s t) ∧
  ∀ (b : Build) (nvm : List Host.Cell) (env : Env),
    let s := State.resetOf b nvm env
    (∀ r, (s.reg r).cfg = .unconfigured ∧ (s.reg r).target = f32_0 ∧ (s.reg r).measured = f32_0 ∧
      (s.reg r).duty = f32_0 ∧ (s.reg r).cal = f32_0 ∧ (s.reg r).running = false ∧
      s.pwm r = ⟨.unassigned, 0#32, f32_0, false⟩ ∧ s.enPin r = .unassigned ∧ s.enabled r = false) ∧
    s.railVdd.onVppPin = .unassigned ∧ s.railVdd.onVpp = false ∧
    s.railVpp.srPins = ⟨.unassigned, .unassigned, .unassigned⟩ ∧
    s.railVpp.route = ⟨false, false, false, false, false⟩ ∧
    s.seq.status = .stopped ∧ s.seq.phase = .idle ∧ s.mutex = none ∧ s.fifoAtoB = none ∧ s.fifoBtoA = none ∧
    s.a.wait = .none ∧ s.b.wait = .none ∧ (∀ a, s.nvmByte a = nvmGet nvm a) ∧ s.out = [] ∧ s.refused = false ∧
    s.pos = .boot .configureVdd

/-- R335, R336: with a sound build, boot's six operations, B's entry and the completion of the launch, with no step of B
in between, give the state of R336, at which boot is done (R339). -/
def Obligations.StateAfterBoot : Prop :=
  ∀ (b : Build) (nvm : List Host.Cell) (env : Env) (later : List Move), Build.Sound b →
    env.sched = [.a, .a, .a, .a, .a, .a, .b, .a] ++ later →
    let s := State.resetOf b nvm env
    ∃ t, Host.Core.run Sys2Proof.core 8 s = .next t ∧
      (∀ r, (t.reg r).cfg = bootReg b r ∧ (t.reg r).target = f32_0 ∧ (t.reg r).measured = f32_0 ∧
        (t.reg r).running = true ∧ (t.reg r).duty = (b.rail r).minDuty ∧
        t.pwm r = ⟨(b.rail r).pwmPin, (b.rail r).pwmFreq, (b.rail r).minDuty, true⟩ ∧
        (t.reg r).cal = s.loadRecord r ∧ t.enPin r = (b.rail r).enPin ∧ t.enabled r = false) ∧
      t.railVdd.onVpp = false ∧ t.railVpp.route = ⟨false, false, false, false, false⟩ ∧
      t.seq = ⟨.running, .check⟩ ∧ t.mutex = none ∧ t.fifoAtoB = none ∧ t.fifoBtoA = none ∧ t.out = [] ∧
      Unrefused t ∧ t.pos = .opcodeFirst ∧ t.a.wait = .none ∧ t.nvm = nvm ∧ BootDone t ∧ (env.host = [] → Quiescent t)

/-! ### Invariants and whole-machine rules -/

/-- The invariant holds at every reset whose NVM is canonical and inside the storage, and so at `State.reset`. -/
def Obligations.StateInvariantAtReset : Prop :=
  (∀ (b : Build) (nvm : List Host.Cell) (env : Env), nvmWf nvm = true →
    (∀ a, b.nvmSize ≤ a → nvmGet nvm a = nvmDefault) → (State.resetOf b nvm env).Inv) ∧
  State.reset.Inv

/-- R21, R22, R24, R38, R210: every step keeps the state's invariant. -/
def Obligations.EveryStepKeepsStateInvariant : Prop :=
  ∀ s t : State, step s = .next t → s.Inv → t.Inv

/-- R10, R39, R40, R271: every step but a reset keeps the build, the responses sent and the refusals marked, and sends at
most one response. -/
def Obligations.LogsOnlyGrow : Prop :=
  ∀ s t : State, step s = .next t →
    t.build = s.build ∧
    (s.nextMove ≠ .reset → (t.out = s.out ∨ ∃ x, t.out = s.out ++ [x]) ∧
      (t.refusals = s.refusals ∨ ∃ why, t.refusals = s.refusals ++ [why]))

/-- R38, R60, R66: only `RAIL_SAVE_CAL` and `SAVE_CAL` write the NVM, and only their rail's record. -/
def Obligations.OnlySavesWriteNvm : Prop :=
  ∀ (i : Instr) (s t : State) (a : Nat), exec i s = .next t → t.nvmByte a ≠ s.nvmByte a →
    ∃ r, ¬OutsideRecord r a ∧ ((∃ m, i = .railSaveCal r m) ∨ ∃ p1 p2, i = .saveCal r p1 p2)

/-- R21 to R23, R25: who writes the configuration, the target, the measured voltage and the offset of a rail. -/
def Obligations.RegulatorRegisterWriters : Prop :=
  ∀ (i : Instr) (s t : State) (r : Rail), exec i s = .next t →
    ((t.reg r).measured ≠ (s.reg r).measured → i = .regAdjust r) ∧
    ((t.reg r).cfg ≠ (s.reg r).cfg → (∃ c, i = .regConfigure r c) ∨ ∃ rc, i = .railConfigure r rc) ∧
    ((t.reg r).target ≠ (s.reg r).target →
      (∃ v, i = .regSetTarget r v) ∨ (∃ v, i = .railInitCal r v) ∨ (∃ p q, i = .setV r p q) ∨ i = .initCal r) ∧
    ((t.reg r).cal ≠ (s.reg r).cal →
      (∃ v, i = .regSetCal r v) ∨ (∃ v, i = .railInitCal r v) ∨ (∃ m, i = .railSaveCal r m) ∨ i = .railLoadCal r ∨
        i = .initCal r ∨ ∃ p q, i = .saveCal r p q)

/-- R24, R26, R27, R43: who writes the duty, the running flag and the pulse output of a rail. -/
def Obligations.DutyAndOutputWriters : Prop :=
  ∀ (i : Instr) (s t : State) (r : Rail), exec i s = .next t →
    let starts := i = .regStart r ∨ i = .railsStart
    let stops := i = .regStop r ∨ i = .railsStop ∨ (∃ c, i = .regConfigure r c) ∨ ∃ rc, i = .railConfigure r rc
    ((t.reg r).duty ≠ (s.reg r).duty → starts ∨ stops ∨ i = .regAdjust r) ∧
    ((t.reg r).running = true → (s.reg r).running = false → starts) ∧
    ((t.reg r).running = false → (s.reg r).running = true → stops) ∧
    (((t.pwm r).pin ≠ (s.pwm r).pin ∨ (t.pwm r).freq ≠ (s.pwm r).freq) → starts) ∧
    ((t.pwm r).armed ≠ (s.pwm r).armed → starts ∨ stops) ∧
    ((t.pwm r).duty ≠ (s.pwm r).duty → starts ∨ stops ∨ i = .regAdjust r)
end

