-- ==== Sys2Proof/Laws/State.lean ====
section
/-! SUPPORT. What each update of the state does to each field of it: one lemma per field per update, true by unfolding, so
that no later proof unfolds a record update. Fields that come in pairs are read through their accessors (`reg r`, `pwm r`,
`enPin r`, `enabled r`, `ctx c`). -/

namespace Sys2Proof.Machine

variable (s : State)

/-! ### The field an update writes -/

@[simp] theorem State.reg_setReg_self (r : Rail) (g : RegState) : (s.setReg r g).reg r = g := by cases r <;> rfl
@[simp] theorem State.reg_setReg_other (r : Rail) (g : RegState) : (s.setReg r g).reg r.other = s.reg r.other := by
  cases r <;> rfl
@[simp] theorem State.reg_setReg_other' (r : Rail) (g : RegState) : (s.setReg r.other g).reg r = s.reg r := by
  cases r <;> rfl
theorem State.reg_setReg (r r' : Rail) (g : RegState) :
    (s.setReg r g).reg r' = if r' = r then g else s.reg r' := by cases r <;> cases r' <;> rfl
theorem State.reg_setReg_ne (r r' : Rail) (g : RegState) (h : r' ≠ r) : (s.setReg r g).reg r' = s.reg r' := by
  rw [State.reg_setReg, if_neg h]
@[simp] theorem State.pwm_setPwm_self (r : Rail) (p : Pwm) : (s.setPwm r p).pwm r = p := by cases r <;> rfl
@[simp] theorem State.pwm_setPwm_other (r : Rail) (p : Pwm) : (s.setPwm r p).pwm r.other = s.pwm r.other := by
  cases r <;> rfl
theorem State.pwm_setPwm (r r' : Rail) (p : Pwm) :
    (s.setPwm r p).pwm r' = if r' = r then p else s.pwm r' := by cases r <;> cases r' <;> rfl
@[simp] theorem State.enabled_setEnabled_self (r : Rail) (on : Bool) : (s.setEnabled r on).enabled r = on := by
  cases r <;> rfl
@[simp] theorem State.enabled_setEnabled_other (r : Rail) (on : Bool) :
    (s.setEnabled r on).enabled r.other = s.enabled r.other := by cases r <;> rfl
@[simp] theorem State.ctx_setCtx_self (c : Ctx) (x : CtxState) : (s.setCtx c x).ctx c = x := by cases c <;> rfl
@[simp] theorem State.ctx_setCtx_other (c : Ctx) (x : CtxState) : (s.setCtx c x).ctx c.other = s.ctx c.other := by
  cases c <;> rfl
theorem State.ctx_setCtx (c c' : Ctx) (x : CtxState) :
    (s.setCtx c x).ctx c' = if c' = c then x else s.ctx c' := by cases c <;> cases c' <;> rfl
@[simp] theorem State.ctx_setResult_self (c : Ctx) (x : Result) :
    (s.setResult c x).ctx c = { s.ctx c with result := x } := by cases c <;> rfl
@[simp] theorem State.ctx_setResult_other (c : Ctx) (x : Result) :
    (s.setResult c x).ctx c.other = s.ctx c.other := by cases c <;> rfl
@[simp] theorem State.ctx_setWait_self (c : Ctx) (x : Wait) :
    (s.setWait c x).ctx c = { s.ctx c with wait := x } := by cases c <;> rfl
@[simp] theorem State.ctx_setWait_other (c : Ctx) (x : Wait) : (s.setWait c x).ctx c.other = s.ctx c.other := by
  cases c <;> rfl
@[simp] theorem State.ctx_setStuck_self (c : Ctx) : (s.setStuck c).ctx c = { s.ctx c with stuck := true } := by
  cases c <;> rfl
@[simp] theorem State.ctx_setStuck_other (c : Ctx) : (s.setStuck c).ctx c.other = s.ctx c.other := by cases c <;> rfl
@[simp] theorem State.ctx_finish_self (c : Ctx) (x : Result) :
    (s.finish c x).ctx c = { s.ctx c with wait := .none, result := x } := by cases c <;> rfl
@[simp] theorem State.ctx_finish_other (c : Ctx) (x : Result) : (s.finish c x).ctx c.other = s.ctx c.other := by
  cases c <;> rfl
@[simp] theorem State.ctx_popIssue_self (c : Ctx) :
    (s.popIssue c).ctx c = { s.ctx c with prog := (s.ctx c).prog.tail } := by cases c <;> rfl
@[simp] theorem State.ctx_popIssue_other (c : Ctx) : (s.popIssue c).ctx c.other = s.ctx c.other := by cases c <;> rfl
@[simp] theorem State.outFifo_setOutFifo_self (c : Ctx) (x : Option U32) : (s.setOutFifo c x).outFifo c = x := by
  cases c <;> rfl
@[simp] theorem State.inFifo_setOutFifo (c : Ctx) (x : Option U32) : (s.setOutFifo c x).inFifo c = s.inFifo c := by
  cases c <;> rfl
@[simp] theorem State.inFifo_setInFifo_self (c : Ctx) (x : Option U32) : (s.setInFifo c x).inFifo c = x := by
  cases c <;> rfl
@[simp] theorem State.outFifo_setInFifo (c : Ctx) (x : Option U32) : (s.setInFifo c x).outFifo c = s.outFifo c := by
  cases c <;> rfl
@[simp] theorem State.reg_disarm_self (r : Rail) :
    (s.disarm r).reg r = { s.reg r with duty := (s.reg r).cfg.minDuty, running := false } := by cases r <;> rfl
@[simp] theorem State.reg_disarm_other (r : Rail) : (s.disarm r).reg r.other = s.reg r.other := by cases r <;> rfl
@[simp] theorem State.pwm_disarm_self (r : Rail) :
    (s.disarm r).pwm r = { s.pwm r with duty := (s.reg r).cfg.minDuty, armed := false } := by cases r <;> rfl
@[simp] theorem State.pwm_disarm_other (r : Rail) : (s.disarm r).pwm r.other = s.pwm r.other := by cases r <;> rfl
@[simp] theorem State.enPin_applyRailConfig_self (r : Rail) (rc : RailConfig) :
    (s.applyRailConfig r rc).enPin r = rc.enPin := by cases r <;> rfl
@[simp] theorem State.enPin_applyRailConfig_other (r : Rail) (rc : RailConfig) :
    (s.applyRailConfig r rc).enPin r.other = s.enPin r.other := by cases r <;> rfl
@[simp] theorem State.enabled_applyRailConfig_self (r : Rail) (rc : RailConfig) :
    (s.applyRailConfig r rc).enabled r = (s.enabled r && rc.enPin == s.enPin r) := by cases r <;> rfl
@[simp] theorem State.enabled_applyRailConfig_other (r : Rail) (rc : RailConfig) :
    (s.applyRailConfig r rc).enabled r.other = s.enabled r.other := by cases r <;> rfl
@[simp] theorem State.refusals_refuse (why : RefuseReason) : (s.refuse why).refusals = s.refusals ++ [why] := rfl
@[simp] theorem State.out_emit (t : Text) : (s.emit t).out = s.out ++ [t] := rfl
@[simp] theorem State.nvm_saveRecord (r : Rail) (v : F32) :
    (s.saveRecord r v).nvm = nvmWrite s.nvm (Config.calBase r) (recordBytes v) := rfl
@[simp] theorem State.host_popHost : s.popHost.env = { s.env with host := s.env.host.tail } := rfl
@[simp] theorem State.env_popMove :
    s.popMove.env = { s.env with sched := s.env.sched.tail, tick := s.env.tick + 1 } := rfl
@[simp] theorem Route.get_set_self (t : Route) (k : RouteBit) (x : Bool) : (t.set k x).get k = x := by cases k <;> rfl
theorem Route.get_set_ne (t : Route) (k k' : RouteBit) (x : Bool) (h : k' ≠ k) : (t.set k x).get k' = t.get k' := by
  cases k <;> cases k' <;> first | rfl | exact absurd rfl h

/-! ### The fields an update leaves alone -/

@[simp] theorem State.build_setReg (r : Rail) (g : RegState) :
    (s.setReg r g).build = s.build := by cases r <;> rfl
@[simp] theorem State.pwm_setReg (r : Rail) (g : RegState) (r' : Rail) :
    (s.setReg r g).pwm r' = s.pwm r' := by cases r <;> cases r' <;> rfl
@[simp] theorem State.railVdd_setReg (r : Rail) (g : RegState) :
    (s.setReg r g).railVdd = s.railVdd := by cases r <;> rfl
@[simp] theorem State.railVpp_setReg (r : Rail) (g : RegState) :
    (s.setReg r g).railVpp = s.railVpp := by cases r <;> rfl
@[simp] theorem State.enPin_setReg (r : Rail) (g : RegState) (r' : Rail) :
    (s.setReg r g).enPin r' = s.enPin r' := by cases r <;> cases r' <;> rfl
@[simp] theorem State.enabled_setReg (r : Rail) (g : RegState) (r' : Rail) :
    (s.setReg r g).enabled r' = s.enabled r' := by cases r <;> cases r' <;> rfl
@[simp] theorem State.seq_setReg (r : Rail) (g : RegState) :
    (s.setReg r g).seq = s.seq := by cases r <;> rfl
@[simp] theorem State.mutex_setReg (r : Rail) (g : RegState) :
    (s.setReg r g).mutex = s.mutex := by cases r <;> rfl
@[simp] theorem State.fifoAtoB_setReg (r : Rail) (g : RegState) :
    (s.setReg r g).fifoAtoB = s.fifoAtoB := by cases r <;> rfl
@[simp] theorem State.fifoBtoA_setReg (r : Rail) (g : RegState) :
    (s.setReg r g).fifoBtoA = s.fifoBtoA := by cases r <;> rfl
@[simp] theorem State.ctx_setReg (r : Rail) (g : RegState) (c' : Ctx) :
    (s.setReg r g).ctx c' = s.ctx c' := by cases r <;> cases c' <;> rfl
@[simp] theorem State.nvm_setReg (r : Rail) (g : RegState) :
    (s.setReg r g).nvm = s.nvm := by cases r <;> rfl
@[simp] theorem State.pos_setReg (r : Rail) (g : RegState) :
    (s.setReg r g).pos = s.pos := by cases r <;> rfl
@[simp] theorem State.out_setReg (r : Rail) (g : RegState) :
    (s.setReg r g).out = s.out := by cases r <;> rfl
@[simp] theorem State.refusals_setReg (r : Rail) (g : RegState) :
    (s.setReg r g).refusals = s.refusals := by cases r <;> rfl
@[simp] theorem State.issuer_setReg (r : Rail) (g : RegState) :
    (s.setReg r g).issuer = s.issuer := by cases r <;> rfl
@[simp] theorem State.env_setReg (r : Rail) (g : RegState) :
    (s.setReg r g).env = s.env := by cases r <;> rfl
@[simp] theorem State.build_setPwm (r : Rail) (p : Pwm) :
    (s.setPwm r p).build = s.build := by cases r <;> rfl
@[simp] theorem State.reg_setPwm (r : Rail) (p : Pwm) (r' : Rail) :
    (s.setPwm r p).reg r' = s.reg r' := by cases r <;> cases r' <;> rfl
@[simp] theorem State.railVdd_setPwm (r : Rail) (p : Pwm) :
    (s.setPwm r p).railVdd = s.railVdd := by cases r <;> rfl
@[simp] theorem State.railVpp_setPwm (r : Rail) (p : Pwm) :
    (s.setPwm r p).railVpp = s.railVpp := by cases r <;> rfl
@[simp] theorem State.enPin_setPwm (r : Rail) (p : Pwm) (r' : Rail) :
    (s.setPwm r p).enPin r' = s.enPin r' := by cases r <;> cases r' <;> rfl
@[simp] theorem State.enabled_setPwm (r : Rail) (p : Pwm) (r' : Rail) :
    (s.setPwm r p).enabled r' = s.enabled r' := by cases r <;> cases r' <;> rfl
@[simp] theorem State.seq_setPwm (r : Rail) (p : Pwm) :
    (s.setPwm r p).seq = s.seq := by cases r <;> rfl
@[simp] theorem State.mutex_setPwm (r : Rail) (p : Pwm) :
    (s.setPwm r p).mutex = s.mutex := by cases r <;> rfl
@[simp] theorem State.fifoAtoB_setPwm (r : Rail) (p : Pwm) :
    (s.setPwm r p).fifoAtoB = s.fifoAtoB := by cases r <;> rfl
@[simp] theorem State.fifoBtoA_setPwm (r : Rail) (p : Pwm) :
    (s.setPwm r p).fifoBtoA = s.fifoBtoA := by cases r <;> rfl
@[simp] theorem State.ctx_setPwm (r : Rail) (p : Pwm) (c' : Ctx) :
    (s.setPwm r p).ctx c' = s.ctx c' := by cases r <;> cases c' <;> rfl
@[simp] theorem State.nvm_setPwm (r : Rail) (p : Pwm) :
    (s.setPwm r p).nvm = s.nvm := by cases r <;> rfl
@[simp] theorem State.pos_setPwm (r : Rail) (p : Pwm) :
    (s.setPwm r p).pos = s.pos := by cases r <;> rfl
@[simp] theorem State.out_setPwm (r : Rail) (p : Pwm) :
    (s.setPwm r p).out = s.out := by cases r <;> rfl
@[simp] theorem State.refusals_setPwm (r : Rail) (p : Pwm) :
    (s.setPwm r p).refusals = s.refusals := by cases r <;> rfl
@[simp] theorem State.issuer_setPwm (r : Rail) (p : Pwm) :
    (s.setPwm r p).issuer = s.issuer := by cases r <;> rfl
@[simp] theorem State.env_setPwm (r : Rail) (p : Pwm) :
    (s.setPwm r p).env = s.env := by cases r <;> rfl
@[simp] theorem State.build_setEnabled (r : Rail) (on : Bool) :
    (s.setEnabled r on).build = s.build := by cases r <;> rfl
@[simp] theorem State.reg_setEnabled (r : Rail) (on : Bool) (r' : Rail) :
    (s.setEnabled r on).reg r' = s.reg r' := by cases r <;> cases r' <;> rfl
@[simp] theorem State.pwm_setEnabled (r : Rail) (on : Bool) (r' : Rail) :
    (s.setEnabled r on).pwm r' = s.pwm r' := by cases r <;> cases r' <;> rfl
@[simp] theorem State.enPin_setEnabled (r : Rail) (on : Bool) (r' : Rail) :
    (s.setEnabled r on).enPin r' = s.enPin r' := by cases r <;> cases r' <;> rfl
@[simp] theorem State.seq_setEnabled (r : Rail) (on : Bool) :
    (s.setEnabled r on).seq = s.seq := by cases r <;> rfl
@[simp] theorem State.mutex_setEnabled (r : Rail) (on : Bool) :
    (s.setEnabled r on).mutex = s.mutex := by cases r <;> rfl
@[simp] theorem State.fifoAtoB_setEnabled (r : Rail) (on : Bool) :
    (s.setEnabled r on).fifoAtoB = s.fifoAtoB := by cases r <;> rfl
@[simp] theorem State.fifoBtoA_setEnabled (r : Rail) (on : Bool) :
    (s.setEnabled r on).fifoBtoA = s.fifoBtoA := by cases r <;> rfl
@[simp] theorem State.ctx_setEnabled (r : Rail) (on : Bool) (c' : Ctx) :
    (s.setEnabled r on).ctx c' = s.ctx c' := by cases r <;> cases c' <;> rfl
@[simp] theorem State.nvm_setEnabled (r : Rail) (on : Bool) :
    (s.setEnabled r on).nvm = s.nvm := by cases r <;> rfl
@[simp] theorem State.pos_setEnabled (r : Rail) (on : Bool) :
    (s.setEnabled r on).pos = s.pos := by cases r <;> rfl
@[simp] theorem State.out_setEnabled (r : Rail) (on : Bool) :
    (s.setEnabled r on).out = s.out := by cases r <;> rfl
@[simp] theorem State.refusals_setEnabled (r : Rail) (on : Bool) :
    (s.setEnabled r on).refusals = s.refusals := by cases r <;> rfl
@[simp] theorem State.issuer_setEnabled (r : Rail) (on : Bool) :
    (s.setEnabled r on).issuer = s.issuer := by cases r <;> rfl
@[simp] theorem State.env_setEnabled (r : Rail) (on : Bool) :
    (s.setEnabled r on).env = s.env := by cases r <;> rfl
@[simp] theorem State.build_setCtx (c : Ctx) (x : CtxState) :
    (s.setCtx c x).build = s.build := by cases c <;> rfl
@[simp] theorem State.reg_setCtx (c : Ctx) (x : CtxState) (r' : Rail) :
    (s.setCtx c x).reg r' = s.reg r' := by cases c <;> cases r' <;> rfl
@[simp] theorem State.pwm_setCtx (c : Ctx) (x : CtxState) (r' : Rail) :
    (s.setCtx c x).pwm r' = s.pwm r' := by cases c <;> cases r' <;> rfl
@[simp] theorem State.railVdd_setCtx (c : Ctx) (x : CtxState) :
    (s.setCtx c x).railVdd = s.railVdd := by cases c <;> rfl
@[simp] theorem State.railVpp_setCtx (c : Ctx) (x : CtxState) :
    (s.setCtx c x).railVpp = s.railVpp := by cases c <;> rfl
@[simp] theorem State.enPin_setCtx (c : Ctx) (x : CtxState) (r' : Rail) :
    (s.setCtx c x).enPin r' = s.enPin r' := by cases c <;> cases r' <;> rfl
@[simp] theorem State.enabled_setCtx (c : Ctx) (x : CtxState) (r' : Rail) :
    (s.setCtx c x).enabled r' = s.enabled r' := by cases c <;> cases r' <;> rfl
@[simp] theorem State.seq_setCtx (c : Ctx) (x : CtxState) :
    (s.setCtx c x).seq = s.seq := by cases c <;> rfl
@[simp] theorem State.mutex_setCtx (c : Ctx) (x : CtxState) :
    (s.setCtx c x).mutex = s.mutex := by cases c <;> rfl
@[simp] theorem State.fifoAtoB_setCtx (c : Ctx) (x : CtxState) :
    (s.setCtx c x).fifoAtoB = s.fifoAtoB := by cases c <;> rfl
@[simp] theorem State.fifoBtoA_setCtx (c : Ctx) (x : CtxState) :
    (s.setCtx c x).fifoBtoA = s.fifoBtoA := by cases c <;> rfl
@[simp] theorem State.nvm_setCtx (c : Ctx) (x : CtxState) :
    (s.setCtx c x).nvm = s.nvm := by cases c <;> rfl
@[simp] theorem State.pos_setCtx (c : Ctx) (x : CtxState) :
    (s.setCtx c x).pos = s.pos := by cases c <;> rfl
@[simp] theorem State.out_setCtx (c : Ctx) (x : CtxState) :
    (s.setCtx c x).out = s.out := by cases c <;> rfl
@[simp] theorem State.refusals_setCtx (c : Ctx) (x : CtxState) :
    (s.setCtx c x).refusals = s.refusals := by cases c <;> rfl
@[simp] theorem State.issuer_setCtx (c : Ctx) (x : CtxState) :
    (s.setCtx c x).issuer = s.issuer := by cases c <;> rfl
@[simp] theorem State.env_setCtx (c : Ctx) (x : CtxState) :
    (s.setCtx c x).env = s.env := by cases c <;> rfl
@[simp] theorem State.build_setResult (c : Ctx) (x : Result) :
    (s.setResult c x).build = s.build := by cases c <;> rfl
@[simp] theorem State.reg_setResult (c : Ctx) (x : Result) (r' : Rail) :
    (s.setResult c x).reg r' = s.reg r' := by cases c <;> cases r' <;> rfl
@[simp] theorem State.pwm_setResult (c : Ctx) (x : Result) (r' : Rail) :
    (s.setResult c x).pwm r' = s.pwm r' := by cases c <;> cases r' <;> rfl
@[simp] theorem State.railVdd_setResult (c : Ctx) (x : Result) :
    (s.setResult c x).railVdd = s.railVdd := by cases c <;> rfl
@[simp] theorem State.railVpp_setResult (c : Ctx) (x : Result) :
    (s.setResult c x).railVpp = s.railVpp := by cases c <;> rfl
@[simp] theorem State.enPin_setResult (c : Ctx) (x : Result) (r' : Rail) :
    (s.setResult c x).enPin r' = s.enPin r' := by cases c <;> cases r' <;> rfl
@[simp] theorem State.enabled_setResult (c : Ctx) (x : Result) (r' : Rail) :
    (s.setResult c x).enabled r' = s.enabled r' := by cases c <;> cases r' <;> rfl
@[simp] theorem State.seq_setResult (c : Ctx) (x : Result) :
    (s.setResult c x).seq = s.seq := by cases c <;> rfl
@[simp] theorem State.mutex_setResult (c : Ctx) (x : Result) :
    (s.setResult c x).mutex = s.mutex := by cases c <;> rfl
@[simp] theorem State.fifoAtoB_setResult (c : Ctx) (x : Result) :
    (s.setResult c x).fifoAtoB = s.fifoAtoB := by cases c <;> rfl
@[simp] theorem State.fifoBtoA_setResult (c : Ctx) (x : Result) :
    (s.setResult c x).fifoBtoA = s.fifoBtoA := by cases c <;> rfl
@[simp] theorem State.nvm_setResult (c : Ctx) (x : Result) :
    (s.setResult c x).nvm = s.nvm := by cases c <;> rfl
@[simp] theorem State.pos_setResult (c : Ctx) (x : Result) :
    (s.setResult c x).pos = s.pos := by cases c <;> rfl
@[simp] theorem State.out_setResult (c : Ctx) (x : Result) :
    (s.setResult c x).out = s.out := by cases c <;> rfl
@[simp] theorem State.refusals_setResult (c : Ctx) (x : Result) :
    (s.setResult c x).refusals = s.refusals := by cases c <;> rfl
@[simp] theorem State.issuer_setResult (c : Ctx) (x : Result) :
    (s.setResult c x).issuer = s.issuer := by cases c <;> rfl
@[simp] theorem State.env_setResult (c : Ctx) (x : Result) :
    (s.setResult c x).env = s.env := by cases c <;> rfl
@[simp] theorem State.build_setWait (c : Ctx) (x : Wait) :
    (s.setWait c x).build = s.build := by cases c <;> rfl
@[simp] theorem State.reg_setWait (c : Ctx) (x : Wait) (r' : Rail) :
    (s.setWait c x).reg r' = s.reg r' := by cases c <;> cases r' <;> rfl
@[simp] theorem State.pwm_setWait (c : Ctx) (x : Wait) (r' : Rail) :
    (s.setWait c x).pwm r' = s.pwm r' := by cases c <;> cases r' <;> rfl
@[simp] theorem State.railVdd_setWait (c : Ctx) (x : Wait) :
    (s.setWait c x).railVdd = s.railVdd := by cases c <;> rfl
@[simp] theorem State.railVpp_setWait (c : Ctx) (x : Wait) :
    (s.setWait c x).railVpp = s.railVpp := by cases c <;> rfl
@[simp] theorem State.enPin_setWait (c : Ctx) (x : Wait) (r' : Rail) :
    (s.setWait c x).enPin r' = s.enPin r' := by cases c <;> cases r' <;> rfl
@[simp] theorem State.enabled_setWait (c : Ctx) (x : Wait) (r' : Rail) :
    (s.setWait c x).enabled r' = s.enabled r' := by cases c <;> cases r' <;> rfl
@[simp] theorem State.seq_setWait (c : Ctx) (x : Wait) :
    (s.setWait c x).seq = s.seq := by cases c <;> rfl
@[simp] theorem State.mutex_setWait (c : Ctx) (x : Wait) :
    (s.setWait c x).mutex = s.mutex := by cases c <;> rfl
@[simp] theorem State.fifoAtoB_setWait (c : Ctx) (x : Wait) :
    (s.setWait c x).fifoAtoB = s.fifoAtoB := by cases c <;> rfl
@[simp] theorem State.fifoBtoA_setWait (c : Ctx) (x : Wait) :
    (s.setWait c x).fifoBtoA = s.fifoBtoA := by cases c <;> rfl
@[simp] theorem State.nvm_setWait (c : Ctx) (x : Wait) :
    (s.setWait c x).nvm = s.nvm := by cases c <;> rfl
@[simp] theorem State.pos_setWait (c : Ctx) (x : Wait) :
    (s.setWait c x).pos = s.pos := by cases c <;> rfl
@[simp] theorem State.out_setWait (c : Ctx) (x : Wait) :
    (s.setWait c x).out = s.out := by cases c <;> rfl
@[simp] theorem State.refusals_setWait (c : Ctx) (x : Wait) :
    (s.setWait c x).refusals = s.refusals := by cases c <;> rfl
@[simp] theorem State.issuer_setWait (c : Ctx) (x : Wait) :
    (s.setWait c x).issuer = s.issuer := by cases c <;> rfl
@[simp] theorem State.env_setWait (c : Ctx) (x : Wait) :
    (s.setWait c x).env = s.env := by cases c <;> rfl
@[simp] theorem State.build_setStuck (c : Ctx) :
    (s.setStuck c).build = s.build := by cases c <;> rfl
@[simp] theorem State.reg_setStuck (c : Ctx) (r' : Rail) :
    (s.setStuck c).reg r' = s.reg r' := by cases c <;> cases r' <;> rfl
@[simp] theorem State.pwm_setStuck (c : Ctx) (r' : Rail) :
    (s.setStuck c).pwm r' = s.pwm r' := by cases c <;> cases r' <;> rfl
@[simp] theorem State.railVdd_setStuck (c : Ctx) :
    (s.setStuck c).railVdd = s.railVdd := by cases c <;> rfl
@[simp] theorem State.railVpp_setStuck (c : Ctx) :
    (s.setStuck c).railVpp = s.railVpp := by cases c <;> rfl
@[simp] theorem State.enPin_setStuck (c : Ctx) (r' : Rail) :
    (s.setStuck c).enPin r' = s.enPin r' := by cases c <;> cases r' <;> rfl
@[simp] theorem State.enabled_setStuck (c : Ctx) (r' : Rail) :
    (s.setStuck c).enabled r' = s.enabled r' := by cases c <;> cases r' <;> rfl
@[simp] theorem State.seq_setStuck (c : Ctx) :
    (s.setStuck c).seq = s.seq := by cases c <;> rfl
@[simp] theorem State.mutex_setStuck (c : Ctx) :
    (s.setStuck c).mutex = s.mutex := by cases c <;> rfl
@[simp] theorem State.fifoAtoB_setStuck (c : Ctx) :
    (s.setStuck c).fifoAtoB = s.fifoAtoB := by cases c <;> rfl
@[simp] theorem State.fifoBtoA_setStuck (c : Ctx) :
    (s.setStuck c).fifoBtoA = s.fifoBtoA := by cases c <;> rfl
@[simp] theorem State.nvm_setStuck (c : Ctx) :
    (s.setStuck c).nvm = s.nvm := by cases c <;> rfl
@[simp] theorem State.pos_setStuck (c : Ctx) :
    (s.setStuck c).pos = s.pos := by cases c <;> rfl
@[simp] theorem State.out_setStuck (c : Ctx) :
    (s.setStuck c).out = s.out := by cases c <;> rfl
@[simp] theorem State.refusals_setStuck (c : Ctx) :
    (s.setStuck c).refusals = s.refusals := by cases c <;> rfl
@[simp] theorem State.issuer_setStuck (c : Ctx) :
    (s.setStuck c).issuer = s.issuer := by cases c <;> rfl
@[simp] theorem State.env_setStuck (c : Ctx) :
    (s.setStuck c).env = s.env := by cases c <;> rfl
@[simp] theorem State.build_setOutFifo (c : Ctx) (x : Option U32) :
    (s.setOutFifo c x).build = s.build := by cases c <;> rfl
@[simp] theorem State.reg_setOutFifo (c : Ctx) (x : Option U32) (r' : Rail) :
    (s.setOutFifo c x).reg r' = s.reg r' := by cases c <;> cases r' <;> rfl
@[simp] theorem State.pwm_setOutFifo (c : Ctx) (x : Option U32) (r' : Rail) :
    (s.setOutFifo c x).pwm r' = s.pwm r' := by cases c <;> cases r' <;> rfl
@[simp] theorem State.railVdd_setOutFifo (c : Ctx) (x : Option U32) :
    (s.setOutFifo c x).railVdd = s.railVdd := by cases c <;> rfl
@[simp] theorem State.railVpp_setOutFifo (c : Ctx) (x : Option U32) :
    (s.setOutFifo c x).railVpp = s.railVpp := by cases c <;> rfl
@[simp] theorem State.enPin_setOutFifo (c : Ctx) (x : Option U32) (r' : Rail) :
    (s.setOutFifo c x).enPin r' = s.enPin r' := by cases c <;> cases r' <;> rfl
@[simp] theorem State.enabled_setOutFifo (c : Ctx) (x : Option U32) (r' : Rail) :
    (s.setOutFifo c x).enabled r' = s.enabled r' := by cases c <;> cases r' <;> rfl
@[simp] theorem State.seq_setOutFifo (c : Ctx) (x : Option U32) :
    (s.setOutFifo c x).seq = s.seq := by cases c <;> rfl
@[simp] theorem State.mutex_setOutFifo (c : Ctx) (x : Option U32) :
    (s.setOutFifo c x).mutex = s.mutex := by cases c <;> rfl
@[simp] theorem State.ctx_setOutFifo (c : Ctx) (x : Option U32) (c' : Ctx) :
    (s.setOutFifo c x).ctx c' = s.ctx c' := by cases c <;> cases c' <;> rfl
@[simp] theorem State.nvm_setOutFifo (c : Ctx) (x : Option U32) :
    (s.setOutFifo c x).nvm = s.nvm := by cases c <;> rfl
@[simp] theorem State.pos_setOutFifo (c : Ctx) (x : Option U32) :
    (s.setOutFifo c x).pos = s.pos := by cases c <;> rfl
@[simp] theorem State.out_setOutFifo (c : Ctx) (x : Option U32) :
    (s.setOutFifo c x).out = s.out := by cases c <;> rfl
@[simp] theorem State.refusals_setOutFifo (c : Ctx) (x : Option U32) :
    (s.setOutFifo c x).refusals = s.refusals := by cases c <;> rfl
@[simp] theorem State.issuer_setOutFifo (c : Ctx) (x : Option U32) :
    (s.setOutFifo c x).issuer = s.issuer := by cases c <;> rfl
@[simp] theorem State.env_setOutFifo (c : Ctx) (x : Option U32) :
    (s.setOutFifo c x).env = s.env := by cases c <;> rfl
@[simp] theorem State.build_setInFifo (c : Ctx) (x : Option U32) :
    (s.setInFifo c x).build = s.build := by cases c <;> rfl
@[simp] theorem State.reg_setInFifo (c : Ctx) (x : Option U32) (r' : Rail) :
    (s.setInFifo c x).reg r' = s.reg r' := by cases c <;> cases r' <;> rfl
@[simp] theorem State.pwm_setInFifo (c : Ctx) (x : Option U32) (r' : Rail) :
    (s.setInFifo c x).pwm r' = s.pwm r' := by cases c <;> cases r' <;> rfl
@[simp] theorem State.railVdd_setInFifo (c : Ctx) (x : Option U32) :
    (s.setInFifo c x).railVdd = s.railVdd := by cases c <;> rfl
@[simp] theorem State.railVpp_setInFifo (c : Ctx) (x : Option U32) :
    (s.setInFifo c x).railVpp = s.railVpp := by cases c <;> rfl
@[simp] theorem State.enPin_setInFifo (c : Ctx) (x : Option U32) (r' : Rail) :
    (s.setInFifo c x).enPin r' = s.enPin r' := by cases c <;> cases r' <;> rfl
@[simp] theorem State.enabled_setInFifo (c : Ctx) (x : Option U32) (r' : Rail) :
    (s.setInFifo c x).enabled r' = s.enabled r' := by cases c <;> cases r' <;> rfl
@[simp] theorem State.seq_setInFifo (c : Ctx) (x : Option U32) :
    (s.setInFifo c x).seq = s.seq := by cases c <;> rfl
@[simp] theorem State.mutex_setInFifo (c : Ctx) (x : Option U32) :
    (s.setInFifo c x).mutex = s.mutex := by cases c <;> rfl
@[simp] theorem State.ctx_setInFifo (c : Ctx) (x : Option U32) (c' : Ctx) :
    (s.setInFifo c x).ctx c' = s.ctx c' := by cases c <;> cases c' <;> rfl
@[simp] theorem State.nvm_setInFifo (c : Ctx) (x : Option U32) :
    (s.setInFifo c x).nvm = s.nvm := by cases c <;> rfl
@[simp] theorem State.pos_setInFifo (c : Ctx) (x : Option U32) :
    (s.setInFifo c x).pos = s.pos := by cases c <;> rfl
@[simp] theorem State.out_setInFifo (c : Ctx) (x : Option U32) :
    (s.setInFifo c x).out = s.out := by cases c <;> rfl
@[simp] theorem State.refusals_setInFifo (c : Ctx) (x : Option U32) :
    (s.setInFifo c x).refusals = s.refusals := by cases c <;> rfl
@[simp] theorem State.issuer_setInFifo (c : Ctx) (x : Option U32) :
    (s.setInFifo c x).issuer = s.issuer := by cases c <;> rfl
@[simp] theorem State.env_setInFifo (c : Ctx) (x : Option U32) :
    (s.setInFifo c x).env = s.env := by cases c <;> rfl
@[simp] theorem State.build_disarm (r : Rail) :
    (s.disarm r).build = s.build := by cases r <;> rfl
@[simp] theorem State.railVdd_disarm (r : Rail) :
    (s.disarm r).railVdd = s.railVdd := by cases r <;> rfl
@[simp] theorem State.railVpp_disarm (r : Rail) :
    (s.disarm r).railVpp = s.railVpp := by cases r <;> rfl
@[simp] theorem State.enPin_disarm (r : Rail) (r' : Rail) :
    (s.disarm r).enPin r' = s.enPin r' := by cases r <;> cases r' <;> rfl
@[simp] theorem State.enabled_disarm (r : Rail) (r' : Rail) :
    (s.disarm r).enabled r' = s.enabled r' := by cases r <;> cases r' <;> rfl
@[simp] theorem State.seq_disarm (r : Rail) :
    (s.disarm r).seq = s.seq := by cases r <;> rfl
@[simp] theorem State.mutex_disarm (r : Rail) :
    (s.disarm r).mutex = s.mutex := by cases r <;> rfl
@[simp] theorem State.fifoAtoB_disarm (r : Rail) :
    (s.disarm r).fifoAtoB = s.fifoAtoB := by cases r <;> rfl
@[simp] theorem State.fifoBtoA_disarm (r : Rail) :
    (s.disarm r).fifoBtoA = s.fifoBtoA := by cases r <;> rfl
@[simp] theorem State.ctx_disarm (r : Rail) (c' : Ctx) :
    (s.disarm r).ctx c' = s.ctx c' := by cases r <;> cases c' <;> rfl
@[simp] theorem State.nvm_disarm (r : Rail) :
    (s.disarm r).nvm = s.nvm := by cases r <;> rfl
@[simp] theorem State.pos_disarm (r : Rail) :
    (s.disarm r).pos = s.pos := by cases r <;> rfl
@[simp] theorem State.out_disarm (r : Rail) :
    (s.disarm r).out = s.out := by cases r <;> rfl
@[simp] theorem State.refusals_disarm (r : Rail) :
    (s.disarm r).refusals = s.refusals := by cases r <;> rfl
@[simp] theorem State.issuer_disarm (r : Rail) :
    (s.disarm r).issuer = s.issuer := by cases r <;> rfl
@[simp] theorem State.env_disarm (r : Rail) :
    (s.disarm r).env = s.env := by cases r <;> rfl
@[simp] theorem State.build_applyRailConfig (r : Rail) (rc : RailConfig) :
    (s.applyRailConfig r rc).build = s.build := by cases r <;> rfl
@[simp] theorem State.reg_applyRailConfig (r : Rail) (rc : RailConfig) (r' : Rail) :
    (s.applyRailConfig r rc).reg r' = s.reg r' := by cases r <;> cases r' <;> rfl
@[simp] theorem State.pwm_applyRailConfig (r : Rail) (rc : RailConfig) (r' : Rail) :
    (s.applyRailConfig r rc).pwm r' = s.pwm r' := by cases r <;> cases r' <;> rfl
@[simp] theorem State.seq_applyRailConfig (r : Rail) (rc : RailConfig) :
    (s.applyRailConfig r rc).seq = s.seq := by cases r <;> rfl
@[simp] theorem State.mutex_applyRailConfig (r : Rail) (rc : RailConfig) :
    (s.applyRailConfig r rc).mutex = s.mutex := by cases r <;> rfl
@[simp] theorem State.fifoAtoB_applyRailConfig (r : Rail) (rc : RailConfig) :
    (s.applyRailConfig r rc).fifoAtoB = s.fifoAtoB := by cases r <;> rfl
@[simp] theorem State.fifoBtoA_applyRailConfig (r : Rail) (rc : RailConfig) :
    (s.applyRailConfig r rc).fifoBtoA = s.fifoBtoA := by cases r <;> rfl
@[simp] theorem State.ctx_applyRailConfig (r : Rail) (rc : RailConfig) (c' : Ctx) :
    (s.applyRailConfig r rc).ctx c' = s.ctx c' := by cases r <;> cases c' <;> rfl
@[simp] theorem State.nvm_applyRailConfig (r : Rail) (rc : RailConfig) :
    (s.applyRailConfig r rc).nvm = s.nvm := by cases r <;> rfl
@[simp] theorem State.pos_applyRailConfig (r : Rail) (rc : RailConfig) :
    (s.applyRailConfig r rc).pos = s.pos := by cases r <;> rfl
@[simp] theorem State.out_applyRailConfig (r : Rail) (rc : RailConfig) :
    (s.applyRailConfig r rc).out = s.out := by cases r <;> rfl
@[simp] theorem State.refusals_applyRailConfig (r : Rail) (rc : RailConfig) :
    (s.applyRailConfig r rc).refusals = s.refusals := by cases r <;> rfl
@[simp] theorem State.issuer_applyRailConfig (r : Rail) (rc : RailConfig) :
    (s.applyRailConfig r rc).issuer = s.issuer := by cases r <;> rfl
@[simp] theorem State.env_applyRailConfig (r : Rail) (rc : RailConfig) :
    (s.applyRailConfig r rc).env = s.env := by cases r <;> rfl
@[simp] theorem State.build_finish (c : Ctx) (x : Result) :
    (s.finish c x).build = s.build := by cases c <;> rfl
@[simp] theorem State.reg_finish (c : Ctx) (x : Result) (r' : Rail) :
    (s.finish c x).reg r' = s.reg r' := by cases c <;> cases r' <;> rfl
@[simp] theorem State.pwm_finish (c : Ctx) (x : Result) (r' : Rail) :
    (s.finish c x).pwm r' = s.pwm r' := by cases c <;> cases r' <;> rfl
@[simp] theorem State.railVdd_finish (c : Ctx) (x : Result) :
    (s.finish c x).railVdd = s.railVdd := by cases c <;> rfl
@[simp] theorem State.railVpp_finish (c : Ctx) (x : Result) :
    (s.finish c x).railVpp = s.railVpp := by cases c <;> rfl
@[simp] theorem State.enPin_finish (c : Ctx) (x : Result) (r' : Rail) :
    (s.finish c x).enPin r' = s.enPin r' := by cases c <;> cases r' <;> rfl
@[simp] theorem State.enabled_finish (c : Ctx) (x : Result) (r' : Rail) :
    (s.finish c x).enabled r' = s.enabled r' := by cases c <;> cases r' <;> rfl
@[simp] theorem State.seq_finish (c : Ctx) (x : Result) :
    (s.finish c x).seq = s.seq := by cases c <;> rfl
@[simp] theorem State.mutex_finish (c : Ctx) (x : Result) :
    (s.finish c x).mutex = s.mutex := by cases c <;> rfl
@[simp] theorem State.fifoAtoB_finish (c : Ctx) (x : Result) :
    (s.finish c x).fifoAtoB = s.fifoAtoB := by cases c <;> rfl
@[simp] theorem State.fifoBtoA_finish (c : Ctx) (x : Result) :
    (s.finish c x).fifoBtoA = s.fifoBtoA := by cases c <;> rfl
@[simp] theorem State.nvm_finish (c : Ctx) (x : Result) :
    (s.finish c x).nvm = s.nvm := by cases c <;> rfl
@[simp] theorem State.pos_finish (c : Ctx) (x : Result) :
    (s.finish c x).pos = s.pos := by cases c <;> rfl
@[simp] theorem State.out_finish (c : Ctx) (x : Result) :
    (s.finish c x).out = s.out := by cases c <;> rfl
@[simp] theorem State.refusals_finish (c : Ctx) (x : Result) :
    (s.finish c x).refusals = s.refusals := by cases c <;> rfl
@[simp] theorem State.issuer_finish (c : Ctx) (x : Result) :
    (s.finish c x).issuer = s.issuer := by cases c <;> rfl
@[simp] theorem State.env_finish (c : Ctx) (x : Result) :
    (s.finish c x).env = s.env := by cases c <;> rfl
@[simp] theorem State.build_popIssue (c : Ctx) :
    (s.popIssue c).build = s.build := by cases c <;> rfl
@[simp] theorem State.reg_popIssue (c : Ctx) (r' : Rail) :
    (s.popIssue c).reg r' = s.reg r' := by cases c <;> cases r' <;> rfl
@[simp] theorem State.pwm_popIssue (c : Ctx) (r' : Rail) :
    (s.popIssue c).pwm r' = s.pwm r' := by cases c <;> cases r' <;> rfl
@[simp] theorem State.railVdd_popIssue (c : Ctx) :
    (s.popIssue c).railVdd = s.railVdd := by cases c <;> rfl
@[simp] theorem State.railVpp_popIssue (c : Ctx) :
    (s.popIssue c).railVpp = s.railVpp := by cases c <;> rfl
@[simp] theorem State.enPin_popIssue (c : Ctx) (r' : Rail) :
    (s.popIssue c).enPin r' = s.enPin r' := by cases c <;> cases r' <;> rfl
@[simp] theorem State.enabled_popIssue (c : Ctx) (r' : Rail) :
    (s.popIssue c).enabled r' = s.enabled r' := by cases c <;> cases r' <;> rfl
@[simp] theorem State.seq_popIssue (c : Ctx) :
    (s.popIssue c).seq = s.seq := by cases c <;> rfl
@[simp] theorem State.mutex_popIssue (c : Ctx) :
    (s.popIssue c).mutex = s.mutex := by cases c <;> rfl
@[simp] theorem State.fifoAtoB_popIssue (c : Ctx) :
    (s.popIssue c).fifoAtoB = s.fifoAtoB := by cases c <;> rfl
@[simp] theorem State.fifoBtoA_popIssue (c : Ctx) :
    (s.popIssue c).fifoBtoA = s.fifoBtoA := by cases c <;> rfl
@[simp] theorem State.nvm_popIssue (c : Ctx) :
    (s.popIssue c).nvm = s.nvm := by cases c <;> rfl
@[simp] theorem State.pos_popIssue (c : Ctx) :
    (s.popIssue c).pos = s.pos := by cases c <;> rfl
@[simp] theorem State.out_popIssue (c : Ctx) :
    (s.popIssue c).out = s.out := by cases c <;> rfl
@[simp] theorem State.refusals_popIssue (c : Ctx) :
    (s.popIssue c).refusals = s.refusals := by cases c <;> rfl
@[simp] theorem State.issuer_popIssue (c : Ctx) :
    (s.popIssue c).issuer = s.issuer := by cases c <;> rfl
@[simp] theorem State.env_popIssue (c : Ctx) :
    (s.popIssue c).env = s.env := by cases c <;> rfl
@[simp] theorem State.build_refuse (why : RefuseReason) :
    (s.refuse why).build = s.build := rfl
@[simp] theorem State.reg_refuse (why : RefuseReason) (r' : Rail) :
    (s.refuse why).reg r' = s.reg r' := rfl
@[simp] theorem State.pwm_refuse (why : RefuseReason) (r' : Rail) :
    (s.refuse why).pwm r' = s.pwm r' := rfl
@[simp] theorem State.railVdd_refuse (why : RefuseReason) :
    (s.refuse why).railVdd = s.railVdd := rfl
@[simp] theorem State.railVpp_refuse (why : RefuseReason) :
    (s.refuse why).railVpp = s.railVpp := rfl
@[simp] theorem State.enPin_refuse (why : RefuseReason) (r' : Rail) :
    (s.refuse why).enPin r' = s.enPin r' := rfl
@[simp] theorem State.enabled_refuse (why : RefuseReason) (r' : Rail) :
    (s.refuse why).enabled r' = s.enabled r' := rfl
@[simp] theorem State.seq_refuse (why : RefuseReason) :
    (s.refuse why).seq = s.seq := rfl
@[simp] theorem State.mutex_refuse (why : RefuseReason) :
    (s.refuse why).mutex = s.mutex := rfl
@[simp] theorem State.fifoAtoB_refuse (why : RefuseReason) :
    (s.refuse why).fifoAtoB = s.fifoAtoB := rfl
@[simp] theorem State.fifoBtoA_refuse (why : RefuseReason) :
    (s.refuse why).fifoBtoA = s.fifoBtoA := rfl
@[simp] theorem State.ctx_refuse (why : RefuseReason) (c' : Ctx) :
    (s.refuse why).ctx c' = s.ctx c' := rfl
@[simp] theorem State.nvm_refuse (why : RefuseReason) :
    (s.refuse why).nvm = s.nvm := rfl
@[simp] theorem State.pos_refuse (why : RefuseReason) :
    (s.refuse why).pos = s.pos := rfl
@[simp] theorem State.out_refuse (why : RefuseReason) :
    (s.refuse why).out = s.out := rfl
@[simp] theorem State.issuer_refuse (why : RefuseReason) :
    (s.refuse why).issuer = s.issuer := rfl
@[simp] theorem State.env_refuse (why : RefuseReason) :
    (s.refuse why).env = s.env := rfl
@[simp] theorem State.build_emit (t : Text) :
    (s.emit t).build = s.build := rfl
@[simp] theorem State.reg_emit (t : Text) (r' : Rail) :
    (s.emit t).reg r' = s.reg r' := rfl
@[simp] theorem State.pwm_emit (t : Text) (r' : Rail) :
    (s.emit t).pwm r' = s.pwm r' := rfl
@[simp] theorem State.railVdd_emit (t : Text) :
    (s.emit t).railVdd = s.railVdd := rfl
@[simp] theorem State.railVpp_emit (t : Text) :
    (s.emit t).railVpp = s.railVpp := rfl
@[simp] theorem State.enPin_emit (t : Text) (r' : Rail) :
    (s.emit t).enPin r' = s.enPin r' := rfl
@[simp] theorem State.enabled_emit (t : Text) (r' : Rail) :
    (s.emit t).enabled r' = s.enabled r' := rfl
@[simp] theorem State.seq_emit (t : Text) :
    (s.emit t).seq = s.seq := rfl
@[simp] theorem State.mutex_emit (t : Text) :
    (s.emit t).mutex = s.mutex := rfl
@[simp] theorem State.fifoAtoB_emit (t : Text) :
    (s.emit t).fifoAtoB = s.fifoAtoB := rfl
@[simp] theorem State.fifoBtoA_emit (t : Text) :
    (s.emit t).fifoBtoA = s.fifoBtoA := rfl
@[simp] theorem State.ctx_emit (t : Text) (c' : Ctx) :
    (s.emit t).ctx c' = s.ctx c' := rfl
@[simp] theorem State.nvm_emit (t : Text) :
    (s.emit t).nvm = s.nvm := rfl
@[simp] theorem State.pos_emit (t : Text) :
    (s.emit t).pos = s.pos := rfl
@[simp] theorem State.refusals_emit (t : Text) :
    (s.emit t).refusals = s.refusals := rfl
@[simp] theorem State.issuer_emit (t : Text) :
    (s.emit t).issuer = s.issuer := rfl
@[simp] theorem State.env_emit (t : Text) :
    (s.emit t).env = s.env := rfl
@[simp] theorem State.build_saveRecord (r : Rail) (v : F32) :
    (s.saveRecord r v).build = s.build := rfl
@[simp] theorem State.reg_saveRecord (r : Rail) (v : F32) (r' : Rail) :
    (s.saveRecord r v).reg r' = s.reg r' := rfl
@[simp] theorem State.pwm_saveRecord (r : Rail) (v : F32) (r' : Rail) :
    (s.saveRecord r v).pwm r' = s.pwm r' := rfl
@[simp] theorem State.railVdd_saveRecord (r : Rail) (v : F32) :
    (s.saveRecord r v).railVdd = s.railVdd := rfl
@[simp] theorem State.railVpp_saveRecord (r : Rail) (v : F32) :
    (s.saveRecord r v).railVpp = s.railVpp := rfl
@[simp] theorem State.enPin_saveRecord (r : Rail) (v : F32) (r' : Rail) :
    (s.saveRecord r v).enPin r' = s.enPin r' := rfl
@[simp] theorem State.enabled_saveRecord (r : Rail) (v : F32) (r' : Rail) :
    (s.saveRecord r v).enabled r' = s.enabled r' := rfl
@[simp] theorem State.seq_saveRecord (r : Rail) (v : F32) :
    (s.saveRecord r v).seq = s.seq := rfl
@[simp] theorem State.mutex_saveRecord (r : Rail) (v : F32) :
    (s.saveRecord r v).mutex = s.mutex := rfl
@[simp] theorem State.fifoAtoB_saveRecord (r : Rail) (v : F32) :
    (s.saveRecord r v).fifoAtoB = s.fifoAtoB := rfl
@[simp] theorem State.fifoBtoA_saveRecord (r : Rail) (v : F32) :
    (s.saveRecord r v).fifoBtoA = s.fifoBtoA := rfl
@[simp] theorem State.ctx_saveRecord (r : Rail) (v : F32) (c' : Ctx) :
    (s.saveRecord r v).ctx c' = s.ctx c' := rfl
@[simp] theorem State.pos_saveRecord (r : Rail) (v : F32) :
    (s.saveRecord r v).pos = s.pos := rfl
@[simp] theorem State.out_saveRecord (r : Rail) (v : F32) :
    (s.saveRecord r v).out = s.out := rfl
@[simp] theorem State.refusals_saveRecord (r : Rail) (v : F32) :
    (s.saveRecord r v).refusals = s.refusals := rfl
@[simp] theorem State.issuer_saveRecord (r : Rail) (v : F32) :
    (s.saveRecord r v).issuer = s.issuer := rfl
@[simp] theorem State.env_saveRecord (r : Rail) (v : F32) :
    (s.saveRecord r v).env = s.env := rfl
@[simp] theorem State.build_afterUncal :
    (s.afterUncal).build = s.build := rfl
@[simp] theorem State.reg_afterUncal (r' : Rail) :
    (s.afterUncal).reg r' = s.reg r' := rfl
@[simp] theorem State.pwm_afterUncal (r' : Rail) :
    (s.afterUncal).pwm r' = s.pwm r' := rfl
@[simp] theorem State.railVdd_afterUncal :
    (s.afterUncal).railVdd = s.railVdd := rfl
@[simp] theorem State.railVpp_afterUncal :
    (s.afterUncal).railVpp = s.railVpp := rfl
@[simp] theorem State.enPin_afterUncal (r' : Rail) :
    (s.afterUncal).enPin r' = s.enPin r' := rfl
@[simp] theorem State.enabled_afterUncal (r' : Rail) :
    (s.afterUncal).enabled r' = s.enabled r' := rfl
@[simp] theorem State.seq_afterUncal :
    (s.afterUncal).seq = s.seq := rfl
@[simp] theorem State.mutex_afterUncal :
    (s.afterUncal).mutex = s.mutex := rfl
@[simp] theorem State.fifoAtoB_afterUncal :
    (s.afterUncal).fifoAtoB = s.fifoAtoB := rfl
@[simp] theorem State.fifoBtoA_afterUncal :
    (s.afterUncal).fifoBtoA = s.fifoBtoA := rfl
@[simp] theorem State.ctx_afterUncal (c' : Ctx) :
    (s.afterUncal).ctx c' = s.ctx c' := rfl
@[simp] theorem State.nvm_afterUncal :
    (s.afterUncal).nvm = s.nvm := rfl
@[simp] theorem State.pos_afterUncal :
    (s.afterUncal).pos = s.pos := rfl
@[simp] theorem State.out_afterUncal :
    (s.afterUncal).out = s.out := rfl
@[simp] theorem State.refusals_afterUncal :
    (s.afterUncal).refusals = s.refusals := rfl
@[simp] theorem State.issuer_afterUncal :
    (s.afterUncal).issuer = s.issuer := rfl
@[simp] theorem State.build_popHost :
    (s.popHost).build = s.build := rfl
@[simp] theorem State.reg_popHost (r' : Rail) :
    (s.popHost).reg r' = s.reg r' := rfl
@[simp] theorem State.pwm_popHost (r' : Rail) :
    (s.popHost).pwm r' = s.pwm r' := rfl
@[simp] theorem State.railVdd_popHost :
    (s.popHost).railVdd = s.railVdd := rfl
@[simp] theorem State.railVpp_popHost :
    (s.popHost).railVpp = s.railVpp := rfl
@[simp] theorem State.enPin_popHost (r' : Rail) :
    (s.popHost).enPin r' = s.enPin r' := rfl
@[simp] theorem State.enabled_popHost (r' : Rail) :
    (s.popHost).enabled r' = s.enabled r' := rfl
@[simp] theorem State.seq_popHost :
    (s.popHost).seq = s.seq := rfl
@[simp] theorem State.mutex_popHost :
    (s.popHost).mutex = s.mutex := rfl
@[simp] theorem State.fifoAtoB_popHost :
    (s.popHost).fifoAtoB = s.fifoAtoB := rfl
@[simp] theorem State.fifoBtoA_popHost :
    (s.popHost).fifoBtoA = s.fifoBtoA := rfl
@[simp] theorem State.ctx_popHost (c' : Ctx) :
    (s.popHost).ctx c' = s.ctx c' := rfl
@[simp] theorem State.nvm_popHost :
    (s.popHost).nvm = s.nvm := rfl
@[simp] theorem State.pos_popHost :
    (s.popHost).pos = s.pos := rfl
@[simp] theorem State.out_popHost :
    (s.popHost).out = s.out := rfl
@[simp] theorem State.refusals_popHost :
    (s.popHost).refusals = s.refusals := rfl
@[simp] theorem State.issuer_popHost :
    (s.popHost).issuer = s.issuer := rfl
@[simp] theorem State.build_popMove :
    (s.popMove).build = s.build := rfl
@[simp] theorem State.reg_popMove (r' : Rail) :
    (s.popMove).reg r' = s.reg r' := rfl
@[simp] theorem State.pwm_popMove (r' : Rail) :
    (s.popMove).pwm r' = s.pwm r' := rfl
@[simp] theorem State.railVdd_popMove :
    (s.popMove).railVdd = s.railVdd := rfl
@[simp] theorem State.railVpp_popMove :
    (s.popMove).railVpp = s.railVpp := rfl
@[simp] theorem State.enPin_popMove (r' : Rail) :
    (s.popMove).enPin r' = s.enPin r' := rfl
@[simp] theorem State.enabled_popMove (r' : Rail) :
    (s.popMove).enabled r' = s.enabled r' := rfl
@[simp] theorem State.seq_popMove :
    (s.popMove).seq = s.seq := rfl
@[simp] theorem State.mutex_popMove :
    (s.popMove).mutex = s.mutex := rfl
@[simp] theorem State.fifoAtoB_popMove :
    (s.popMove).fifoAtoB = s.fifoAtoB := rfl
@[simp] theorem State.fifoBtoA_popMove :
    (s.popMove).fifoBtoA = s.fifoBtoA := rfl
@[simp] theorem State.ctx_popMove (c' : Ctx) :
    (s.popMove).ctx c' = s.ctx c' := rfl
@[simp] theorem State.nvm_popMove :
    (s.popMove).nvm = s.nvm := rfl
@[simp] theorem State.pos_popMove :
    (s.popMove).pos = s.pos := rfl
@[simp] theorem State.out_popMove :
    (s.popMove).out = s.out := rfl
@[simp] theorem State.refusals_popMove :
    (s.popMove).refusals = s.refusals := rfl
@[simp] theorem State.issuer_popMove :
    (s.popMove).issuer = s.issuer := rfl

end Sys2Proof.Machine
end

