-- ==== Sys2Proof/Laws/Ops.lean ====
section
/-! SUPPORT. The shared operations: for each, one lemma that says everything it can do. -/

namespace Sys2Proof.Machine

/-! ### Outcomes -/

@[simp] theorem OpOut.bind_ret (s : State) (res : Result) (k : State → Result → OpOut) :
    (OpOut.ret s res).bind k = k s res := rfl
@[simp] theorem OpOut.bind_refuse (s : State) (why : RefuseReason) (k : State → Result → OpOut) :
    (OpOut.refuse s why).bind k = .refuse s why := rfl
@[simp] theorem OpOut.commit_ret (s : State) (res : Result) (c : Ctx) : (OpOut.ret s res).commit c = s.setResult c res :=
  rfl
@[simp] theorem OpOut.commit_refuse (s : State) (why : RefuseReason) (c : Ctx) :
    (OpOut.refuse s why).commit c = s.refuse why := rfl
@[simp] theorem OpOut.commit_fail (s : State) (c : Ctx) : (OpOut.fail s).commit c = s.setResult c (.bool false) := rfl
@[simp] theorem OpOut.respond_fail (s : State) : (OpOut.fail s).respond = s.emit nokText := rfl
@[simp] theorem OpOut.respond_false (s : State) : (OpOut.ret s (.bool false)).respond = s.emit nokText := rfl
@[simp] theorem OpOut.respond_true (s : State) : (OpOut.ret s (.bool true)).respond = s.emit okText := rfl
@[simp] theorem OpOut.respond_nothing (s : State) : (OpOut.ret s .nothing).respond = s.emit okText := rfl
@[simp] theorem OpOut.respond_refuse (s : State) (why : RefuseReason) : (OpOut.refuse s why).respond = s.refuse why :=
  rfl

/-! ### Contexts and the mutex -/

@[simp] theorem Allowed.onlyA_admits (c : Ctx) : Allowed.onlyA.admits c = (c == .a) := by cases c <;> rfl
@[simp] theorem Allowed.onlyB_admits (c : Ctx) : Allowed.onlyB.admits c = (c == .b) := by cases c <;> rfl
@[simp] theorem Allowed.both_admits (c : Ctx) : Allowed.both.admits c = true := by cases c <;> rfl

theorem State.mayTake_iff (s : State) (c : Ctx) : s.mayTake c = true ↔ s.mutex = none ∨ s.mutex = some c := by
  simp [State.mayTake]

/-- An operation on shared state, in every case: refused, held, or run whole (R72, R306). -/
theorem runShared_cases (ctxs : Allowed) (body : State → OpOut) (s : State) :
    (ctxs.admits s.issuer = false ∧ runShared ctxs body s = .next (s.refuse .contextViolation)) ∨
    (ctxs.admits s.issuer = true ∧ s.mayTake s.issuer = false ∧ runShared ctxs body s = .next s) ∨
    (ctxs.admits s.issuer = true ∧ s.mayTake s.issuer = true ∧
      runShared ctxs body s = .next ((body s).commit s.issuer)) := by
  unfold runShared
  cases h1 : ctxs.admits s.issuer <;> cases h2 : s.mayTake s.issuer <;> simp

/-- An operation of the sequencer, in every case (R73, R306). -/
theorem runFree_cases (ctxs : Allowed) (body : State → Ctx → State) (s : State) :
    (ctxs.admits s.issuer = false ∧ runFree ctxs body s = .next (s.refuse .contextViolation)) ∨
    (ctxs.admits s.issuer = true ∧ runFree ctxs body s = .next (body s s.issuer)) := by
  unfold runFree
  cases h1 : ctxs.admits s.issuer <;> simp

/-- A handler, in every case: held while B owns the mutex, else run whole (R255). -/
theorem runHandler_cases (body : State → State) (s : State) :
    (s.mayTake .a = false ∧ runHandler body s = .next s) ∨
    (s.mayTake .a = true ∧ runHandler body s = .next (body s)) := by
  unfold runHandler
  cases h : s.mayTake .a <;> simp

theorem runShared_run {ctxs : Allowed} {body : State → OpOut} {s : State} (h1 : ctxs.admits s.issuer = true)
    (h2 : s.mayTake s.issuer = true) : runShared ctxs body s = .next ((body s).commit s.issuer) := by
  simp [runShared, h1, h2]

theorem runFree_run {ctxs : Allowed} {body : State → Ctx → State} {s : State} (h1 : ctxs.admits s.issuer = true) :
    runFree ctxs body s = .next (body s s.issuer) := by
  simp [runFree, h1]

theorem runHandler_run {body : State → State} {s : State} (h : s.mayTake .a = true) :
    runHandler body s = .next (body s) := by
  simp [runHandler, h]

/-! ### The ADC -/

theorem withUncal_assigned {r : Rail} {s : State} {k : F32 → State → OpOut} (h : (s.reg r).cfg.channel ≠ .unassigned) :
    withUncal r s k = k (s.uncal r) s.afterUncal := by
  simp [withUncal, h]

theorem withUncal_unassigned {r : Rail} {s : State} {k : F32 → State → OpOut} (h : (s.reg r).cfg.channel = .unassigned) :
    withUncal r s k = .refuse s .unassignedChannel := by
  simp [withUncal, h]

/-- The environment after `n` samples: `n` listed codes and `n` indices are used, nothing else changes (R70). -/
theorem Env.sampleSum_env (n : Nat) (e : Env) :
    (Env.sampleSum n e).2 = { e with adc := e.adc.drop n, adcTick := e.adcTick + n } := by
  induction n generalizing e with
  | zero => rfl
  | succ n ih =>
    rw [Env.sampleSum]
    simp only [ih, Env.afterSample]
    congr 1
    · simp
    · omega

/-- The sum of `n` codes is at most `4095 n` (R124). -/
theorem Env.sampleSum_le (n : Nat) (e : Env) : (Env.sampleSum n e).1 ≤ 4095 * n := by
  induction n generalizing e with
  | zero => simp [Env.sampleSum]
  | succ n ih =>
    have h1 := ih e.afterSample
    have h2 := e.nextCode.isLt
    simp only [Env.sampleSum]
    omega

/-- The sum of `n` codes that are all `c` (R124). -/
theorem Env.sampleSum_replicate (n : Nat) (c : AdcCode) (rest : List AdcCode) (e : Env)
    (h : e.adc = List.replicate n c ++ rest) : (Env.sampleSum n e).1 = n * c.toNat := by
  induction n generalizing e with
  | zero => simp [Env.sampleSum]
  | succ n ih =>
    have h1 : e.adc = c :: (List.replicate n c ++ rest) := by rw [h, List.replicate_succ]; rfl
    rw [Env.sampleSum]
    simp only [ih e.afterSample (by simp [Env.afterSample, h1]), Env.nextCode, h1]
    rw [Nat.succ_mul, Nat.add_comm]

/-- After `Uncal` only the ADC's listed codes and index have moved (R28, R70). -/
theorem State.env_afterUncal (s : State) :
    s.afterUncal.env = { s.env with adc := s.env.adc.drop s.build.adcAvgSamples
                                    adcTick := s.env.adcTick + s.build.adcAvgSamples } :=
  Env.sampleSum_env _ _

/-! ### The shift-register view (R32, R169) -/

theorem mem_bitsAt {p : RoutePositions} {n : Fin 8} {k : RouteBit} : k ∈ bitsAt p n ↔ routePosition p k = n := by
  cases k <;> simp [bitsAt, routeBits]

/-- The view shows `b` exactly when some routing bit stands at the position and all that do hold `b` (log 30). -/
theorem State.srOutput_eq_some {s : State} {n : Fin 8} {b : Bool} :
    s.srOutput n = some b ↔ (∃ k, routePosition s.build.routeBit k = n) ∧
      ∀ k, routePosition s.build.routeBit k = n → s.railVpp.route.get k = b := by
  unfold State.srOutput
  simp only [← mem_bitsAt]
  cases bitsAt s.build.routeBit n with
  | nil => simp
  | cons k ks =>
    simp only [List.map_cons, List.all_map, List.mem_cons]
    constructor
    · intro h
      split at h
      · rename_i hall
        simp only [List.all_eq_true, Function.comp, beq_iff_eq] at hall
        cases h
        exact ⟨⟨k, .inl rfl⟩, fun j hj => hj.elim (fun e => e ▸ rfl) (hall j)⟩
      · cases h
    · rintro ⟨-, h⟩
      have hk := h k (.inl rfl)
      rw [if_pos, hk]
      simp only [List.all_eq_true, Function.comp, beq_iff_eq]
      exact fun j hj => (h j (.inr hj)).trans hk.symm

/-- The view of a position depends on the routing bits that stand there, and on nothing else of the state. -/
theorem State.srOutput_congr {s t : State} {n : Fin 8} (hb : t.build = s.build)
    (h : ∀ k, routePosition s.build.routeBit k = n → t.railVpp.route.get k = s.railVpp.route.get k) :
    t.srOutput n = s.srOutput n := by
  unfold State.srOutput
  rw [hb, List.map_congr_left fun k hk => h k (mem_bitsAt.1 hk)]

end Sys2Proof.Machine
end

