-- ==== Sys2Proof/Laws/Exec.lean ====
section
/-! SUPPORT. What `exec` does as a whole: it always answers a next state (every failure is a result, R300), it holds or
refuses as R72 and R306 say, and how one turn of a context unfolds. -/

namespace Sys2Proof.Machine

/-- Every operation answers a next state: a failure is a result value and a refusal marks the run (R300, R40). -/
theorem exec_next (i : Instr) (s : State) : ∃ t, exec i s = .next t := by
  cases i <;> exact ⟨_, rfl⟩

/-- The wire commands (R83), which are context A's whatever the issuer (log 29). -/
def isWire : Instr → Bool
  | .nop | .enable _ _ | .setV _ _ _ | .getV _ | .getDuty _ | .getCal _ | .initCal _ | .saveCal _ _ _ => true
  | .setA9 _ | .setA18 _ | .setCe _ | .setOe _ | .setWe _ | .setVddOnVpp _ => true
  | .regConfigure _ _ | .regStart _ | .regStop _ | .regSetTarget _ _ | .regAdjust _ | .regGetCal _ => false
  | .regSetCal _ _ | .regGetTarget _ | .regGetV _ | .regGetDuty _ | .regIsRunning _ => false
  | .railConfigure _ _ | .railOn _ | .railOff _ | .railIsOn _ | .railToggle _ | .railInitCal _ _ => false
  | .railSaveCal _ _ | .railLoadCal _ => false
  | .vppSetA9 _ | .vppSetA18 _ | .vppSetCe _ | .vppSetOe _ | .vppSetWe _ | .vddSetOnVpp _ => false
  | .railsStart | .railsStop | .railsIsRunning => false
  | .seqLaunch | .seqStop | .seqIsStopRequested | .seqGetStatus | .seqLock | .seqUnlock | .seqPutParam _ => false
  | .seqGetParam => false

/-- The turn of a context: its step, or nothing moves, or the deadlock (log 3). -/
theorem ctxTurn_cases (c : Ctx) (s : State) :
    (∃ o, ctxMove c s = some o ∧ ctxTurn c s = o) ∨
    (ctxMove c s = none ∧ s.deadlocked = true ∧ ctxTurn c s = .fault .deadlock) ∨
    (ctxMove c s = none ∧ s.deadlocked = false ∧ ctxTurn c s = .next s) := by
  unfold ctxTurn
  cases h : ctxMove c s with
  | some o => exact .inl ⟨o, rfl, rfl⟩
  | none => cases hd : s.deadlocked <;> simp

/-- One step is the turn of whoever is next (R305 (d)). -/
theorem step_eq (s : State) :
    step s = match s.nextMove with
      | .a => ctxTurn .a s.popMove
      | .b => ctxTurn .b s.popMove
      | .reset => .next s.popMove.hardReset := rfl

/-- Everything a context's step can be (R215 to R227, R250 to R255, R335). -/
theorem ctxMove_cases {c : Ctx} {s : State} {o : Host.Outcome State Fault Refusal} (h : ctxMove c s = some o) :
    (s.ctx c).stuck = false ∧
    (((s.ctx c).wait ≠ .none ∧ ∃ t, completeWait s c = some t ∧ o = .next t) ∨
     ((s.ctx c).wait = .none ∧ (s.ctx c).prog ≠ [] ∧ issueMove c s = some o) ∨
     ((s.ctx c).wait = .none ∧ (s.ctx c).prog = [] ∧
       ((c = .a ∧ posMove s = some o) ∨ (c = .b ∧ loopMove s = some o)))) := by
  unfold ctxMove at h
  split at h
  · cases h
  · rename_i hs
    refine ⟨by simpa using hs, ?_⟩
    split at h
    · rename_i hw
      refine .inl ⟨hw, ?_⟩
      cases hc : completeWait s c with
      | none => rw [hc] at h; cases h
      | some t => rw [hc] at h; cases h; exact ⟨t, rfl, rfl⟩
    · rename_i hw
      rw [not_not] at hw
      split at h
      · rename_i hp
        exact .inr (.inl ⟨hw, hp, h⟩)
      · rename_i hp
        rw [not_not] at hp
        refine .inr (.inr ⟨hw, hp, ?_⟩)
        cases c
        · exact .inl ⟨rfl, h⟩
        · exact .inr ⟨rfl, h⟩

end Sys2Proof.Machine
end

