-- ==== Sys2Proof/Laws/F32.lean ====
section
/-! SUPPORT. Facts about the binary32 operations that later proofs cite: the fields of a packed magnitude, that a rounded
result is never a NaN, when a sum is a NaN, and what the clamp gives. -/

namespace Sys2Proof.Machine

/-! ### Packed magnitudes -/

theorem f32OfMag_toNat (neg : Bool) (m : Nat) (h : m < 2 ^ 31) :
    (f32OfMag neg m).toNat = if neg then m + 2 ^ 31 else m := by
  unfold f32OfMag
  rw [BitVec.toNat_ofNat]
  cases neg
  · simp; omega
  · simp; omega

theorem f32Exp_ofMag (neg : Bool) (m : Nat) (h : m < 2 ^ 31) : f32Exp (f32OfMag neg m) = m / 2 ^ 23 := by
  unfold f32Exp
  rw [f32OfMag_toNat _ _ h]
  split <;> omega

theorem f32Frac_ofMag (neg : Bool) (m : Nat) (h : m < 2 ^ 31) : f32Frac (f32OfMag neg m) = m % 2 ^ 23 := by
  unfold f32Frac
  rw [f32OfMag_toNat _ _ h]
  split <;> omega

theorem f32Sign_eq (x : F32) : f32Sign x = decide (2 ^ 31 ≤ x.toNat) := by
  have hx := x.isLt
  have h : x.toNat / 2 ^ 31 = 0 ∨ x.toNat / 2 ^ 31 = 1 := by omega
  unfold f32Sign BitVec.getLsbD
  rw [Nat.testBit_eq_decide_div_mod_eq]
  rcases h with h | h <;> simp <;> omega

theorem f32Sign_ofMag (neg : Bool) (m : Nat) (h : m < 2 ^ 31) : f32Sign (f32OfMag neg m) = neg := by
  rw [f32Sign_eq, f32OfMag_toNat _ _ h]
  cases neg
  · simp; omega
  · simp

theorem f32IsNaN_ofMag (neg : Bool) (m : Nat) (h : m ≤ f32InfMag) : f32IsNaN (f32OfMag neg m) = false := by
  unfold f32InfMag at h
  unfold f32IsNaN
  rw [f32Exp_ofMag _ _ (by omega), f32Frac_ofMag _ _ (by omega)]
  rw [Bool.and_eq_false_iff, beq_eq_false_iff_ne, bne_eq_false_iff_eq]
  omega

theorem f32Finite_ofMag (neg : Bool) (m : Nat) (h : m < f32InfMag) : f32Finite (f32OfMag neg m) = true := by
  unfold f32InfMag at h
  unfold f32Finite
  rw [f32Exp_ofMag _ _ (by omega)]
  simp; omega

/-! ### Kinds of values -/

theorem f32Exp_lt (x : F32) : f32Exp x < 256 := Nat.mod_lt _ (by decide)

theorem f32Frac_lt (x : F32) : f32Frac x < 2 ^ 23 := Nat.mod_lt _ (by decide)

theorem f32Finite_not_nan {x : F32} (h : f32Finite x = true) : f32IsNaN x = false := by
  unfold f32Finite at h
  unfold f32IsNaN
  simp_all

theorem f32Finite_not_inf {x : F32} (h : f32Finite x = true) : f32IsInf x = false := by
  unfold f32Finite at h
  unfold f32IsInf
  simp_all

/-- A value is finite, an infinity or a NaN. -/
theorem f32_cases (x : F32) : f32Finite x = true ∨ f32IsInf x = true ∨ f32IsNaN x = true := by
  unfold f32Finite f32IsInf f32IsNaN
  by_cases h : f32Exp x = 255 <;> by_cases h' : f32Frac x = 0 <;> simp [h, h']

/-- The free NaN is a NaN, whatever its pattern (log 10). -/
@[simp] theorem f32IsNaN_nan (op : NanOp) (x y : F32) : f32IsNaN (f32Nan op x y) = true := by
  unfold f32Nan
  simp only
  split
  · assumption
  · decide

/-- A rounded result is finite or an infinity. -/
@[simp] theorem f32IsNaN_round (neg : Bool) (n d : Nat) : f32IsNaN (f32Round neg n d) = false :=
  f32IsNaN_ofMag _ _ (Nat.min_le_right _ _)

@[simp] theorem f32IsNaN_zero (neg : Bool) : f32IsNaN (f32Zero neg) = false := f32IsNaN_ofMag _ _ (Nat.zero_le _)

@[simp] theorem f32IsNaN_inf (neg : Bool) : f32IsNaN (f32Inf neg) = false := f32IsNaN_ofMag _ _ (Nat.le_refl _)

@[simp] theorem f32IsNaN_ofNat (n : Nat) : f32IsNaN (f32OfNat n) = false := f32IsNaN_round _ _ _

/-- The sum of two finite values is no NaN. -/
theorem f32Add_not_nan {x y : F32} (hx : f32Finite x = true) (hy : f32Finite y = true) :
    f32IsNaN (f32Add x y) = false := by
  unfold f32Add
  simp only [f32Finite_not_nan hx, f32Finite_not_nan hy, f32Finite_not_inf hx, f32Finite_not_inf hy]
  simp only [Bool.or_self, Bool.false_eq_true, if_false]
  split <;> simp

theorem f32Exp_neg (x : F32) : f32Exp (f32Neg x) = f32Exp x := by
  unfold f32Neg
  rw [f32Exp_ofMag _ _ (Nat.mod_lt _ (by decide))]
  unfold f32Exp
  have := x.isLt
  omega

theorem f32Frac_neg (x : F32) : f32Frac (f32Neg x) = f32Frac x := by
  unfold f32Neg
  rw [f32Frac_ofMag _ _ (Nat.mod_lt _ (by decide))]
  unfold f32Frac
  omega

@[simp] theorem f32Finite_neg (x : F32) : f32Finite (f32Neg x) = f32Finite x := by
  unfold f32Finite
  rw [f32Exp_neg]

@[simp] theorem f32IsNaN_neg (x : F32) : f32IsNaN (f32Neg x) = f32IsNaN x := by
  unfold f32IsNaN
  rw [f32Exp_neg, f32Frac_neg]

@[simp] theorem f32Mag_neg (x : F32) : f32Mag (f32Neg x) = f32Mag x := by
  unfold f32Mag
  rw [f32Exp_neg, f32Frac_neg]

@[simp] theorem f32Sign_neg (x : F32) : f32Sign (f32Neg x) = !f32Sign x :=
  f32Sign_ofMag _ _ (Nat.mod_lt _ (by decide))

@[simp] theorem f32Val_neg (x : F32) : f32Val (f32Neg x) = -f32Val x := by
  unfold f32Val
  rw [f32Sign_neg, f32Mag_neg]
  cases f32Sign x <;> simp

/-- The difference of two finite values is no NaN. -/
theorem f32Sub_not_nan {x y : F32} (hx : f32Finite x = true) (hy : f32Finite y = true) :
    f32IsNaN (f32Sub x y) = false := by
  unfold f32Sub
  rw [if_neg (by simp [f32Finite_not_nan hx, f32Finite_not_nan hy])]
  exact f32Add_not_nan hx (by simpa using hy)

/-! ### Magnitudes and comparisons -/

/-- A finite magnitude lies below that of an infinity. -/
theorem f32Mag_lt_of_finite {x : F32} (h : f32Finite x = true) : f32Mag x < 2 ^ 23 <<< 254 := by
  have hf := f32Frac_lt x
  have he := f32Exp_lt x
  have hne : f32Exp x ≠ 255 := by simpa [f32Finite] using h
  unfold f32Mag
  split
  · exact Nat.lt_of_lt_of_le hf (by decide)
  · rw [Nat.shiftLeft_eq, Nat.shiftLeft_eq]
    have h1 : f32Frac x + 2 ^ 23 < 2 ^ 24 := by omega
    calc (f32Frac x + 2 ^ 23) * 2 ^ (f32Exp x - 1) < 2 ^ 24 * 2 ^ (f32Exp x - 1) := by
          exact Nat.mul_lt_mul_of_pos_right h1 (by positivity)
      _ ≤ 2 ^ 24 * 2 ^ 253 := Nat.mul_le_mul_left _ (Nat.pow_le_pow_right (by decide) (by omega))
      _ = 2 ^ 23 * 2 ^ 254 := by norm_num

/-- The magnitude an infinity compares with. -/
theorem f32Mag_of_inf {x : F32} (h : f32IsInf x = true) : f32Mag x = 2 ^ 23 <<< 254 := by
  unfold f32IsInf at h
  simp only [Bool.and_eq_true, beq_iff_eq] at h
  unfold f32Mag
  rw [h.1, h.2]
  decide

theorem f32Lt_iff {x y : F32} :
    f32Lt x y = true ↔ f32IsNaN x = false ∧ f32IsNaN y = false ∧ f32Val x < f32Val y := by
  simp [f32Lt, and_assoc]

theorem f32Le_iff {x y : F32} :
    f32Le x y = true ↔ f32IsNaN x = false ∧ f32IsNaN y = false ∧ f32Val x ≤ f32Val y := by
  simp [f32Le, and_assoc]

theorem f32Eq_iff {x y : F32} :
    f32Eq x y = true ↔ f32IsNaN x = false ∧ f32IsNaN y = false ∧ f32Val x = f32Val y := by
  simp [f32Eq, and_assoc]

theorem f32Lt_false_iff {x y : F32} (hx : f32IsNaN x = false) (hy : f32IsNaN y = false) :
    f32Lt x y = false ↔ f32Val y ≤ f32Val x := by
  simp [f32Lt, hx, hy]

/-! ### The clamp -/

/-- What the clamp gives: the value itself or one of the bounds (R15). -/
theorem f32Clamp_cases (x lo hi : F32) : f32Clamp x lo hi = x ∨ f32Clamp x lo hi = lo ∨ f32Clamp x lo hi = hi := by
  unfold f32Clamp f32Min f32Max
  split <;> split <;> simp

/-- A value that is no NaN is clamped into the bounds (R15, R130 step (4)). -/
theorem f32Clamp_bounds {x lo hi : F32} (hx : f32IsNaN x = false) (h : f32Le lo hi = true) :
    f32Le lo (f32Clamp x lo hi) = true ∧ f32Le (f32Clamp x lo hi) hi = true := by
  obtain ⟨hl, hh, hle⟩ := f32Le_iff.mp h
  unfold f32Clamp f32Min f32Max f32Gt
  by_cases h1 : f32Lt x lo = true
  · rw [if_pos h1]
    have : f32Lt hi lo = false := by rw [f32Lt_false_iff hh hl]; exact hle
    rw [this]
    exact ⟨f32Le_iff.mpr ⟨hl, hl, le_refl _⟩, h⟩
  · rw [if_neg h1]
    rw [Bool.not_eq_true, f32Lt_false_iff hx hl] at h1
    by_cases h2 : f32Lt hi x = true
    · rw [if_pos h2]
      exact ⟨h, f32Le_iff.mpr ⟨hh, hh, le_refl _⟩⟩
    · rw [if_neg h2]
      rw [Bool.not_eq_true, f32Lt_false_iff hh hx] at h2
      exact ⟨f32Le_iff.mpr ⟨hl, hx, h1⟩, f32Le_iff.mpr ⟨hx, hh, h2⟩⟩

/-- A value within the bounds is left alone by the clamp (R15). -/
theorem f32Clamp_of_bounds {x lo hi : F32} (h1 : f32Le lo x = true) (h2 : f32Le x hi = true) :
    f32Clamp x lo hi = x := by
  obtain ⟨hl, hx, hlx⟩ := f32Le_iff.mp h1
  obtain ⟨-, hh, hxh⟩ := f32Le_iff.mp h2
  unfold f32Clamp f32Min f32Max f32Gt
  have e1 : f32Lt x lo = false := (f32Lt_false_iff hx hl).mpr hlx
  rw [e1]
  have e2 : f32Lt hi x = false := (f32Lt_false_iff hh hx).mpr hxh
  simp [e2]

/-- A value between two finite ones is finite. -/
theorem f32Finite_of_between {x lo hi : F32} (hlo : f32Finite lo = true) (hhi : f32Finite hi = true)
    (h1 : f32Le lo x = true) (h2 : f32Le x hi = true) : f32Finite x = true := by
  obtain ⟨-, hx, hlx⟩ := f32Le_iff.mp h1
  obtain ⟨-, -, hxh⟩ := f32Le_iff.mp h2
  rcases f32_cases x with h | h | h
  · exact h
  · have hm := f32Mag_of_inf h
    have l1 := f32Mag_lt_of_finite hlo
    have l2 := f32Mag_lt_of_finite hhi
    generalize (2 ^ 23 <<< 254 : Nat) = inf at hm l1 l2
    unfold f32Val at hlx hxh
    exfalso
    split at hlx <;> split at hlx <;> split at hxh <;> simp_all <;> omega
  · rw [hx] at h
    exact absurd h (by decide)

end Sys2Proof.Machine
end

