-- ==== Sys2Proof/Laws/Nvm.lean ====
section
/-! SUPPORT. The NVM: a read after a write, and that every operation on the listed bytes keeps their canonical form. -/

namespace Sys2Proof.Machine

theorem nvmGet_nvmSet_self (m : List Host.Cell) (a : Nat) (b : Byte) (lo : Nat) (h : nvmWfFrom lo m = true) :
    nvmGet (nvmSet m a b) a = b := by
  induction m generalizing lo with
  | nil => unfold nvmSet; split <;> simp_all [nvmGet]
  | cons c m ih =>
    obtain ⟨k, v⟩ := c
    simp only [nvmWfFrom, Bool.and_eq_true, decide_eq_true_eq] at h
    have tail_default : ∀ lo m, nvmWfFrom lo m = true → ∀ x, x < lo → nvmGet m x = nvmDefault := by
      intro lo m
      induction m generalizing lo with
      | nil => intros; rfl
      | cons c m ih =>
        obtain ⟨k, v⟩ := c
        intro h x hx
        simp only [nvmWfFrom, Bool.and_eq_true, decide_eq_true_eq] at h
        rw [nvmGet, if_neg (by omega)]
        exact ih _ h.2 x (by omega)
    unfold nvmSet
    split
    · split
      · rename_i h1 h2
        rw [nvmGet, if_neg (by omega), tail_default _ _ h.2 a (by omega), h2]
      · simp [nvmGet]
    · split
      · split
        · rename_i h1 h2 h3
          rw [tail_default _ _ h.2 a (by omega), h3]
        · simp [nvmGet]
      · rename_i h1 h2
        rw [nvmGet, if_neg (fun e => h2 e.symm)]
        exact ih _ h.2

theorem nvmGet_nvmSet_ne (m : List Host.Cell) (a a' : Nat) (b : Byte) (hne : a' ≠ a) :
    nvmGet (nvmSet m a b) a' = nvmGet m a' := by
  induction m with
  | nil => unfold nvmSet; split <;> simp [nvmGet, hne.symm]
  | cons c m ih =>
    obtain ⟨k, v⟩ := c
    unfold nvmSet
    split
    · split
      · rfl
      · rw [nvmGet, if_neg (fun e => hne e.symm)]
    · split
      · rename_i h
        subst h
        split
        · rw [nvmGet.eq_2, if_neg (fun e => hne e.symm)]
        · rw [nvmGet, if_neg (fun e => hne e.symm), nvmGet.eq_2, if_neg (fun e => hne e.symm)]
      · rw [nvmGet, nvmGet.eq_2]
        split
        · rfl
        · exact ih

theorem nvmWfFrom_mono (m : List Host.Cell) {lo lo' : Nat} (h : nvmWfFrom lo m = true) (hle : lo' ≤ lo) :
    nvmWfFrom lo' m = true := by
  cases m with
  | nil => rfl
  | cons c m =>
    obtain ⟨k, v⟩ := c
    simp only [nvmWfFrom, Bool.and_eq_true, decide_eq_true_eq] at h ⊢
    exact ⟨⟨by omega, h.1.2⟩, h.2⟩

theorem nvmWfFrom_nvmSet (m : List Host.Cell) (a : Nat) (b : Byte) {lo : Nat} (h : nvmWfFrom lo m = true)
    (ha : lo ≤ a) : nvmWfFrom lo (nvmSet m a b) = true := by
  induction m generalizing lo with
  | nil =>
    unfold nvmSet
    split
    · rfl
    · simp_all [nvmWfFrom]
  | cons c m ih =>
    obtain ⟨k, v⟩ := c
    have h' := h
    simp only [nvmWfFrom, Bool.and_eq_true, decide_eq_true_eq] at h
    unfold nvmSet
    split
    · split
      · exact h'
      · rename_i h1 h2
        simp only [nvmWfFrom, Bool.and_eq_true, decide_eq_true_eq, bne_iff_ne]
        exact ⟨⟨ha, h2⟩, ⟨by omega, by simpa using h.1.2⟩, h.2⟩
    · split
      · rename_i h1 h2
        subst h2
        split
        · exact nvmWfFrom_mono m h.2 (by omega)
        · rename_i h3
          simp only [nvmWfFrom, Bool.and_eq_true, decide_eq_true_eq, bne_iff_ne]
          exact ⟨⟨ha, h3⟩, h.2⟩
      · simp only [nvmWfFrom, Bool.and_eq_true, decide_eq_true_eq]
        exact ⟨h.1, ih h.2 (by omega)⟩

/-- Writing one byte keeps the canonical form. -/
theorem nvmWf_nvmSet (m : List Host.Cell) (a : Nat) (b : Byte) (h : nvmWf m = true) : nvmWf (nvmSet m a b) = true :=
  nvmWfFrom_nvmSet m a b h (Nat.zero_le _)

/-- Writing a run of bytes keeps the canonical form. -/
theorem nvmWf_nvmWrite (m : List Host.Cell) (off : Nat) (bs : List Byte) (h : nvmWf m = true) :
    nvmWf (nvmWrite m off bs) = true := by
  induction bs generalizing m off with
  | nil => exact h
  | cons b bs ih => exact ih _ _ (nvmWf_nvmSet m off b h)

/-- A byte outside a written run reads as before. -/
theorem nvmGet_nvmWrite_outside (m : List Host.Cell) (off : Nat) (bs : List Byte) (a : Nat)
    (h : a < off ∨ off + bs.length ≤ a) : nvmGet (nvmWrite m off bs) a = nvmGet m a := by
  induction bs generalizing m off with
  | nil => rfl
  | cons b bs ih =>
    simp only [List.length_cons] at h
    rw [nvmWrite, ih _ _ (by omega), nvmGet_nvmSet_ne _ _ _ _ (by omega)]

/-- A byte of a written run reads as it was written. -/
theorem nvmGet_nvmWrite_inside (m : List Host.Cell) (off : Nat) (bs : List Byte) (k : Nat) (h : nvmWf m = true)
    (hk : k < bs.length) : nvmGet (nvmWrite m off bs) (off + k) = bs[k] := by
  induction bs generalizing m off k with
  | nil => simp at hk
  | cons b bs ih =>
    rw [nvmWrite]
    cases k with
    | zero =>
      rw [nvmGet_nvmWrite_outside _ _ _ _ (by omega), Nat.add_zero, nvmGet_nvmSet_self _ _ _ 0 h]
      rfl
    | succ k =>
      have := ih (nvmSet m off b) (off + 1) k (nvmWf_nvmSet _ _ _ h) (by simpa using hk)
      rw [show off + (k + 1) = off + 1 + k by omega, this]
      rfl

/-- The reset state's NVM has the canonical form. -/
theorem nvmWf_reset : nvmWf State.reset.nvm = true := rfl

/-- Saving a record keeps the canonical form. -/
theorem nvmWf_saveRecord (s : State) (r : Rail) (v : F32) (h : nvmWf s.nvm = true) :
    nvmWf (s.saveRecord r v).nvm = true := nvmWf_nvmWrite _ _ _ h

theorem recordBytes_length (v : F32) : (recordBytes v).length = 5 := rfl

/-- Outside the record's five bytes a save changes nothing (R66). -/
theorem nvmByte_saveRecord_outside (s : State) (r : Rail) (v : F32) (a : Nat)
    (h : a < Config.calBase r ∨ Config.calBase r + 5 ≤ a) : (s.saveRecord r v).nvmByte a = s.nvmByte a :=
  nvmGet_nvmWrite_outside _ _ _ _ (by simpa [recordBytes_length] using h)

/-- The record's bytes after a save are those of R61. -/
theorem recordByte_saveRecord (s : State) (r : Rail) (v : F32) (k : Nat) (hk : k < 5) (h : nvmWf s.nvm = true) :
    (s.saveRecord r v).recordByte r k = (recordBytes v)[k] :=
  nvmGet_nvmWrite_inside _ _ _ _ h _

/-- The four bytes of a pattern, put together again, are the pattern (R61, R64). -/
theorem f32OfBytes_f32Byte (v : F32) : f32OfBytes (f32Byte v 0) (f32Byte v 1) (f32Byte v 2) (f32Byte v 3) = v := by
  unfold f32OfBytes f32Byte
  apply BitVec.eq_of_getLsbD_eq
  intro i hi
  simp only [BitVec.getLsbD_append, BitVec.getLsbD_extractLsb']
  by_cases h0 : i < 8
  · simp [h0]
  · by_cases h1 : i < 16
    · simp [h0, show i - 8 < 8 by omega, show 8 + (i - 8) = i by omega]
    · by_cases h2 : i < 24
      · simp [h0, show ¬ i - 8 < 8 by omega, show i - 8 - 8 < 8 by omega, show 16 + (i - 8 - 8) = i by omega]
      · simp [h0, show ¬ i - 8 < 8 by omega, show ¬ i - 8 - 8 < 8 by omega, show i - 8 - 8 - 8 < 8 by omega,
          show 24 + (i - 8 - 8 - 8) = i by omega]

end Sys2Proof.Machine
end

