-- ==== Sys2Proof/Laws/PerInstr.lean ====
section
/-! SUPPORT. Statements about every operation as syntax, one lemma per constructor. `CodeShape`: a wire command encodes to
an opcode byte with bit 7 clear and at most two parameter bytes, an internal operation to a selector with bit 7 set (R81,
R83, R84, R87). -/

namespace Sys2Proof.Laws.CodeShape

/-- The shape of an operation's code (R81, R87). -/
def Statement (i : Instr) : Prop :=
  match encode i with
  | .wire bytes => bytes.length ≤ 3 ∧ (bytes.head?.map fun s => s.getLsbD 7) = some false
  | .internal is => is.selector.getLsbD 7 = true

theorem nop : Statement (.nop) :=
  ⟨Nat.le_of_ble_eq_true rfl, rfl⟩
theorem enable (r : Rail) (p1 : Byte) : Statement (.enable r p1) :=
  match r with
  | .vdd => ⟨Nat.le_of_ble_eq_true rfl, rfl⟩
  | .vpp => ⟨Nat.le_of_ble_eq_true rfl, rfl⟩
theorem setV (r : Rail) (p1 p2 : Byte) : Statement (.setV r p1 p2) :=
  match r with
  | .vdd => ⟨Nat.le_of_ble_eq_true rfl, rfl⟩
  | .vpp => ⟨Nat.le_of_ble_eq_true rfl, rfl⟩
theorem getV (r : Rail) : Statement (.getV r) :=
  match r with
  | .vdd => ⟨Nat.le_of_ble_eq_true rfl, rfl⟩
  | .vpp => ⟨Nat.le_of_ble_eq_true rfl, rfl⟩
theorem getDuty (r : Rail) : Statement (.getDuty r) :=
  match r with
  | .vdd => ⟨Nat.le_of_ble_eq_true rfl, rfl⟩
  | .vpp => ⟨Nat.le_of_ble_eq_true rfl, rfl⟩
theorem getCal (r : Rail) : Statement (.getCal r) :=
  match r with
  | .vdd => ⟨Nat.le_of_ble_eq_true rfl, rfl⟩
  | .vpp => ⟨Nat.le_of_ble_eq_true rfl, rfl⟩
theorem initCal (r : Rail) : Statement (.initCal r) :=
  match r with
  | .vdd => ⟨Nat.le_of_ble_eq_true rfl, rfl⟩
  | .vpp => ⟨Nat.le_of_ble_eq_true rfl, rfl⟩
theorem saveCal (r : Rail) (p1 p2 : Byte) : Statement (.saveCal r p1 p2) :=
  match r with
  | .vdd => ⟨Nat.le_of_ble_eq_true rfl, rfl⟩
  | .vpp => ⟨Nat.le_of_ble_eq_true rfl, rfl⟩
theorem setA9 (p1 : Byte) : Statement (.setA9 p1) :=
  ⟨Nat.le_of_ble_eq_true rfl, rfl⟩
theorem setA18 (p1 : Byte) : Statement (.setA18 p1) :=
  ⟨Nat.le_of_ble_eq_true rfl, rfl⟩
theorem setCe (p1 : Byte) : Statement (.setCe p1) :=
  ⟨Nat.le_of_ble_eq_true rfl, rfl⟩
theorem setOe (p1 : Byte) : Statement (.setOe p1) :=
  ⟨Nat.le_of_ble_eq_true rfl, rfl⟩
theorem setWe (p1 : Byte) : Statement (.setWe p1) :=
  ⟨Nat.le_of_ble_eq_true rfl, rfl⟩
theorem setVddOnVpp (p1 : Byte) : Statement (.setVddOnVpp p1) :=
  ⟨Nat.le_of_ble_eq_true rfl, rfl⟩
theorem regConfigure (r : Rail) (cfg : RegulatorConfig) : Statement (.regConfigure r cfg) :=
  match r with
  | .vdd => (rfl : (perRail 0x80#8 .vdd).getLsbD 7 = true)
  | .vpp => (rfl : (perRail 0x80#8 .vpp).getLsbD 7 = true)
theorem regStart (r : Rail) : Statement (.regStart r) :=
  match r with
  | .vdd => (rfl : (perRail 0x82#8 .vdd).getLsbD 7 = true)
  | .vpp => (rfl : (perRail 0x82#8 .vpp).getLsbD 7 = true)
theorem regStop (r : Rail) : Statement (.regStop r) :=
  match r with
  | .vdd => (rfl : (perRail 0x84#8 .vdd).getLsbD 7 = true)
  | .vpp => (rfl : (perRail 0x84#8 .vpp).getLsbD 7 = true)
theorem regSetTarget (r : Rail) (v : F32) : Statement (.regSetTarget r v) :=
  match r with
  | .vdd => (rfl : (perRail 0x86#8 .vdd).getLsbD 7 = true)
  | .vpp => (rfl : (perRail 0x86#8 .vpp).getLsbD 7 = true)
theorem regAdjust (r : Rail) : Statement (.regAdjust r) :=
  match r with
  | .vdd => (rfl : (perRail 0x88#8 .vdd).getLsbD 7 = true)
  | .vpp => (rfl : (perRail 0x88#8 .vpp).getLsbD 7 = true)
theorem regGetCal (r : Rail) : Statement (.regGetCal r) :=
  match r with
  | .vdd => (rfl : (perRail 0x8A#8 .vdd).getLsbD 7 = true)
  | .vpp => (rfl : (perRail 0x8A#8 .vpp).getLsbD 7 = true)
theorem regSetCal (r : Rail) (v : F32) : Statement (.regSetCal r v) :=
  match r with
  | .vdd => (rfl : (perRail 0x8C#8 .vdd).getLsbD 7 = true)
  | .vpp => (rfl : (perRail 0x8C#8 .vpp).getLsbD 7 = true)
theorem regGetTarget (r : Rail) : Statement (.regGetTarget r) :=
  match r with
  | .vdd => (rfl : (perRail 0x8E#8 .vdd).getLsbD 7 = true)
  | .vpp => (rfl : (perRail 0x8E#8 .vpp).getLsbD 7 = true)
theorem regGetV (r : Rail) : Statement (.regGetV r) :=
  match r with
  | .vdd => (rfl : (perRail 0x90#8 .vdd).getLsbD 7 = true)
  | .vpp => (rfl : (perRail 0x90#8 .vpp).getLsbD 7 = true)
theorem regGetDuty (r : Rail) : Statement (.regGetDuty r) :=
  match r with
  | .vdd => (rfl : (perRail 0x92#8 .vdd).getLsbD 7 = true)
  | .vpp => (rfl : (perRail 0x92#8 .vpp).getLsbD 7 = true)
theorem regIsRunning (r : Rail) : Statement (.regIsRunning r) :=
  match r with
  | .vdd => (rfl : (perRail 0x94#8 .vdd).getLsbD 7 = true)
  | .vpp => (rfl : (perRail 0x94#8 .vpp).getLsbD 7 = true)
theorem railConfigure (r : Rail) (rc : RailConfig) : Statement (.railConfigure r rc) :=
  match r with
  | .vdd => (rfl : (perRail 0xA0#8 .vdd).getLsbD 7 = true)
  | .vpp => (rfl : (perRail 0xA0#8 .vpp).getLsbD 7 = true)
theorem railOn (r : Rail) : Statement (.railOn r) :=
  match r with
  | .vdd => (rfl : (perRail 0xA2#8 .vdd).getLsbD 7 = true)
  | .vpp => (rfl : (perRail 0xA2#8 .vpp).getLsbD 7 = true)
theorem railOff (r : Rail) : Statement (.railOff r) :=
  match r with
  | .vdd => (rfl : (perRail 0xA4#8 .vdd).getLsbD 7 = true)
  | .vpp => (rfl : (perRail 0xA4#8 .vpp).getLsbD 7 = true)
theorem railIsOn (r : Rail) : Statement (.railIsOn r) :=
  match r with
  | .vdd => (rfl : (perRail 0xA6#8 .vdd).getLsbD 7 = true)
  | .vpp => (rfl : (perRail 0xA6#8 .vpp).getLsbD 7 = true)
theorem railToggle (r : Rail) : Statement (.railToggle r) :=
  match r with
  | .vdd => (rfl : (perRail 0xA8#8 .vdd).getLsbD 7 = true)
  | .vpp => (rfl : (perRail 0xA8#8 .vpp).getLsbD 7 = true)
theorem railInitCal (r : Rail) (ref : F32) : Statement (.railInitCal r ref) :=
  match r with
  | .vdd => (rfl : (perRail 0xAA#8 .vdd).getLsbD 7 = true)
  | .vpp => (rfl : (perRail 0xAA#8 .vpp).getLsbD 7 = true)
theorem railSaveCal (r : Rail) (m : F32) : Statement (.railSaveCal r m) :=
  match r with
  | .vdd => (rfl : (perRail 0xAC#8 .vdd).getLsbD 7 = true)
  | .vpp => (rfl : (perRail 0xAC#8 .vpp).getLsbD 7 = true)
theorem railLoadCal (r : Rail) : Statement (.railLoadCal r) :=
  match r with
  | .vdd => (rfl : (perRail 0xAE#8 .vdd).getLsbD 7 = true)
  | .vpp => (rfl : (perRail 0xAE#8 .vpp).getLsbD 7 = true)
theorem vppSetA9 (b : Bool) : Statement (.vppSetA9 b) :=
  (rfl : (0xB1#8).getLsbD 7 = true)
theorem vppSetA18 (b : Bool) : Statement (.vppSetA18 b) :=
  (rfl : (0xB3#8).getLsbD 7 = true)
theorem vppSetCe (b : Bool) : Statement (.vppSetCe b) :=
  (rfl : (0xB5#8).getLsbD 7 = true)
theorem vppSetOe (b : Bool) : Statement (.vppSetOe b) :=
  (rfl : (0xB7#8).getLsbD 7 = true)
theorem vppSetWe (b : Bool) : Statement (.vppSetWe b) :=
  (rfl : (0xB9#8).getLsbD 7 = true)
theorem vddSetOnVpp (b : Bool) : Statement (.vddSetOnVpp b) :=
  (rfl : (0xBA#8).getLsbD 7 = true)
theorem railsStart : Statement (.railsStart) :=
  (rfl : (0xC0#8).getLsbD 7 = true)
theorem railsStop : Statement (.railsStop) :=
  (rfl : (0xC2#8).getLsbD 7 = true)
theorem railsIsRunning : Statement (.railsIsRunning) :=
  (rfl : (0xC4#8).getLsbD 7 = true)
theorem seqLaunch : Statement (.seqLaunch) :=
  (rfl : (0xD0#8).getLsbD 7 = true)
theorem seqStop : Statement (.seqStop) :=
  (rfl : (0xD2#8).getLsbD 7 = true)
theorem seqIsStopRequested : Statement (.seqIsStopRequested) :=
  (rfl : (0xD4#8).getLsbD 7 = true)
theorem seqGetStatus : Statement (.seqGetStatus) :=
  (rfl : (0xD6#8).getLsbD 7 = true)
theorem seqLock : Statement (.seqLock) :=
  (rfl : (0xD8#8).getLsbD 7 = true)
theorem seqUnlock : Statement (.seqUnlock) :=
  (rfl : (0xDA#8).getLsbD 7 = true)
theorem seqPutParam (w : U32) : Statement (.seqPutParam w) :=
  (rfl : (0xDC#8).getLsbD 7 = true)
theorem seqGetParam : Statement (.seqGetParam) :=
  (rfl : (0xDE#8).getLsbD 7 = true)

end Sys2Proof.Laws.CodeShape
end

