-- ==== Sys2Proof/Tests/Slice0.lean ====
section
/-! SUPPORT. The model's own tests: the well-formedness smoke, one decoded word of every constructor, and single steps whose
results are the spec's own vectors (95_test_vectors.md; each test names its vector). The witnesses of the statements'
hypotheses stand in Witnesses.lean. -/

namespace Sys2Proof.Tests
set_option Elab.async false
open Sys2Proof.Machine

/-! ### The start states of 95_test_vectors.md -/

/-- The test build TB. -/
abbrev tb : Build := Config.testBuild

/-- A regulator of TB, running at duty 10 with target and offset 0 (R336). -/
def bootedReg (r : Rail) : RegState :=
  { cfg := bootReg tb r, target := 0#32, measured := 0#32, duty := 0x41200000#32, cal := 0#32, running := true }

/-- Its pulse output. -/
def bootedPwm (pin : Nat) : Pwm := { pin := .num pin, freq := 50000#32, duty := 0x41200000#32, armed := true }

/-- The state right after reset, of TB. -/
def atReset : State := State.resetOf tb [] .initial

/-- `S_boot(all 0xFF)`: R336's state. -/
def booted : State :=
  { atReset with
    regVdd := bootedReg .vdd, regVpp := bootedReg .vpp
    pwmVdd := bootedPwm 10, pwmVpp := bootedPwm 11
    railVdd := { enPin := .num 20, enabled := false, onVppPin := .num 7, onVpp := false }
    railVpp := { enPin := .num 21, enabled := false, srPins := ⟨.num 3, .num 4, .num 5⟩, route := .clear }
    seq := { status := .running, phase := .check }
    pos := .opcodeFirst }

/-- The start of the vectors of section 2.4: VDD with target 8 and duty `d`, the four codes `k`, issued by B. -/
def adjusting (d : F32) (k : AdcCode) : State :=
  { booted with
    regVdd := { bootedReg .vdd with target := 0x41000000#32, duty := d }
    issuer := .b
    env := { booted.env with adc := [k, k, k, k] } }

/-- `booted` with VDD at duty 50. -/
def atFifty : State := { booted with regVdd := { bootedReg .vdd with duty := 0x42480000#32 } }

/-- `booted` whose NVM holds some bytes. -/
def withNvm (m : List Host.Cell) : State := { booted with nvm := m }

/-- `booted` with a status and a phase. -/
def withSeq (st : CoreStatus) (p : Phase) : State := { booted with seq := ⟨st, p⟩ }

/-- What a view of the next state shows, when the operation answers one. -/
def see {α : Type} (i : Instr) (s : State) (f : State → α) : Option α :=
  match exec i s with
  | .next t => some (f t)
  | .fault _ => none
  | .refused _ => none

/-- What a view of the state after one step shows. -/
def seeStep {α : Type} (s : State) (f : State → α) : Option α :=
  match step s with
  | .next t => some (f t)
  | .fault _ => none
  | .refused _ => none

/-- The five bytes of a record. -/
def recordOf (r : Rail) (s : State) : List Byte := (List.range 5).map fun k => s.nvmByte (Config.calBase r + k)

/-! ### Well-formedness refuses (R12, R11) -/

theorem test_wf_refuses_pin : (Instr.regConfigure .vdd { (bootReg tb .vdd) with pin := .num 255 }).wf = false := by
  decide

theorem test_wf_refuses_channel : (Instr.regConfigure .vpp { (bootReg tb .vpp) with channel := .num 255 }).wf = false := by
  decide

theorem test_wf_refuses_enPin : (Instr.railConfigure .vdd { (bootRail tb .vdd) with enPin := .num 300 }).wf = false := by
  decide

theorem test_wf_refuses_onVppPin :
    (Instr.railConfigure .vdd { (bootRail tb .vdd) with onVppPin := .num 255 }).wf = false := by
  decide

theorem test_wf_refuses_srPins :
    (Instr.railConfigure .vpp { (bootRail tb .vpp) with srPins := ⟨.num 3, .num 4, .num 255⟩ }).wf = false := by
  decide

theorem test_wf_refuses_railConfig_pin :
    (Instr.railConfigure .vdd { (bootRail tb .vdd) with reg := { bootReg tb .vdd with pin := .num 255 } }).wf = false := by
  decide

theorem test_wf_accepts_edge : (Instr.regConfigure .vdd { (bootReg tb .vdd) with pin := .num 254 }).wf = true := by
  decide

theorem test_build_wf_refuses :
    Build.wf tb = true ∧ Build.wf { tb with adcAvgSamples := 0 } = false ∧
    Build.wf { tb with adcAvgSamples := 4097 } = false ∧ Build.wf { tb with nvmSize := 12 } = false ∧
    Build.wf { tb with vdd := { tb.vdd with enPin := .num 255 } } = false ∧
    Build.wf { tb with vpp := { tb.vpp with pwmPin := .num 255 } } = false ∧
    Build.wf { tb with vddOnVppPin := .num 255 } = false ∧
    Build.wf { tb with srPins := ⟨.num 255, .num 4, .num 5⟩ } = false := by
  decide

/-! ### Decoding: the words of R83 and R84, written out bit by bit -/

theorem test_decode_wire :
    decodeWire [0b00000000#8] = .ok .nop ∧
    decodeWire [0b00000010#8, 0x01#8] = .ok (.enable .vdd 0x01#8) ∧
    decodeWire [0b00000101#8, 0x0C#8, 0x32#8] = .ok (.setV .vpp 0x0C#8 0x32#8) ∧
    decodeWire [0b00000110#8] = .ok (.getV .vdd) ∧
    decodeWire [0b00001001#8] = .ok (.getDuty .vpp) ∧
    decodeWire [0b00001010#8] = .ok (.getCal .vdd) ∧
    decodeWire [0b00001101#8] = .ok (.initCal .vpp) ∧
    decodeWire [0b00001110#8, 0x05#8, 0x0A#8] = .ok (.saveCal .vdd 0x05#8 0x0A#8) ∧
    decodeWire [0b00010001#8, 0x01#8] = .ok (.setA9 0x01#8) ∧
    decodeWire [0b00010011#8, 0x00#8] = .ok (.setA18 0x00#8) ∧
    decodeWire [0b00010101#8, 0xFF#8] = .ok (.setCe 0xFF#8) ∧
    decodeWire [0b00010111#8, 0x01#8] = .ok (.setOe 0x01#8) ∧
    decodeWire [0b00011001#8, 0x01#8] = .ok (.setWe 0x01#8) ∧
    decodeWire [0b00011010#8, 0x01#8] = .ok (.setVddOnVpp 0x01#8) := by
  decide

theorem test_decode_regulator :
    decodeInternal ⟨0b10000001#8, .reg (bootReg tb .vpp)⟩ = .ok (.regConfigure .vpp (bootReg tb .vpp)) ∧
    decodeInternal ⟨0b10000010#8, .none⟩ = .ok (.regStart .vdd) ∧
    decodeInternal ⟨0b10000101#8, .none⟩ = .ok (.regStop .vpp) ∧
    decodeInternal ⟨0b10000110#8, .f32 0x41000000#32⟩ = .ok (.regSetTarget .vdd 0x41000000#32) ∧
    decodeInternal ⟨0b10001001#8, .none⟩ = .ok (.regAdjust .vpp) ∧
    decodeInternal ⟨0b10001010#8, .none⟩ = .ok (.regGetCal .vdd) ∧
    decodeInternal ⟨0b10001101#8, .f32 0xBE800000#32⟩ = .ok (.regSetCal .vpp 0xBE800000#32) ∧
    decodeInternal ⟨0b10001110#8, .none⟩ = .ok (.regGetTarget .vdd) ∧
    decodeInternal ⟨0b10010001#8, .none⟩ = .ok (.regGetV .vpp) ∧
    decodeInternal ⟨0b10010010#8, .none⟩ = .ok (.regGetDuty .vdd) ∧
    decodeInternal ⟨0b10010101#8, .none⟩ = .ok (.regIsRunning .vpp) := by
  decide

theorem test_decode_rail :
    decodeInternal ⟨0b10100000#8, .rail (bootRail tb .vdd)⟩ = .ok (.railConfigure .vdd (bootRail tb .vdd)) ∧
    decodeInternal ⟨0b10100011#8, .none⟩ = .ok (.railOn .vpp) ∧
    decodeInternal ⟨0b10100100#8, .none⟩ = .ok (.railOff .vdd) ∧
    decodeInternal ⟨0b10100111#8, .none⟩ = .ok (.railIsOn .vpp) ∧
    decodeInternal ⟨0b10101000#8, .none⟩ = .ok (.railToggle .vdd) ∧
    decodeInternal ⟨0b10101011#8, .f32 0x41400000#32⟩ = .ok (.railInitCal .vpp 0x41400000#32) ∧
    decodeInternal ⟨0b10101100#8, .f32 0x40A33333#32⟩ = .ok (.railSaveCal .vdd 0x40A33333#32) ∧
    decodeInternal ⟨0b10101111#8, .none⟩ = .ok (.railLoadCal .vpp) ∧
    decodeInternal ⟨0b10110001#8, .bool true⟩ = .ok (.vppSetA9 true) ∧
    decodeInternal ⟨0b10110011#8, .bool false⟩ = .ok (.vppSetA18 false) ∧
    decodeInternal ⟨0b10110101#8, .bool true⟩ = .ok (.vppSetCe true) ∧
    decodeInternal ⟨0b10110111#8, .bool true⟩ = .ok (.vppSetOe true) ∧
    decodeInternal ⟨0b10111001#8, .bool false⟩ = .ok (.vppSetWe false) ∧
    decodeInternal ⟨0b10111010#8, .bool true⟩ = .ok (.vddSetOnVpp true) := by
  decide

theorem test_decode_container_and_sequencer :
    decodeInternal ⟨0b11000000#8, .none⟩ = .ok .railsStart ∧
    decodeInternal ⟨0b11000010#8, .none⟩ = .ok .railsStop ∧
    decodeInternal ⟨0b11000100#8, .none⟩ = .ok .railsIsRunning ∧
    decodeInternal ⟨0b11010000#8, .none⟩ = .ok .seqLaunch ∧
    decodeInternal ⟨0b11010010#8, .none⟩ = .ok .seqStop ∧
    decodeInternal ⟨0b11010100#8, .none⟩ = .ok .seqIsStopRequested ∧
    decodeInternal ⟨0b11010110#8, .none⟩ = .ok .seqGetStatus ∧
    decodeInternal ⟨0b11011000#8, .none⟩ = .ok .seqLock ∧
    decodeInternal ⟨0b11011010#8, .none⟩ = .ok .seqUnlock ∧
    decodeInternal ⟨0b11011100#8, .u32 0x2A#32⟩ = .ok (.seqPutParam 0x2A#32) ∧
    decodeInternal ⟨0b11011110#8, .none⟩ = .ok .seqGetParam := by
  decide

/-- V-ENC-01 to V-ENC-12: the neighbours that name no operation, on the wire and inside. -/
theorem test_decode_refuses :
    ([0x01#8, 0x10#8, 0x1B#8, 0x81#8, 0x88#8, 0xFF#8].map fun s => wireRow s |>.isNone) = List.replicate 6 true ∧
    ([0x00#8, 0x03#8, 0x1A#8, 0xB0#8, 0xC1#8, 0xFF#8].map fun s => internalRow s |>.isNone) = List.replicate 6 true ∧
    decodeWire [0x02#8] = .error .wrongLength ∧ decodeInternal ⟨0x86#8, .bool true⟩ = .error .operandType := by
  decide

/-- The opcode-table word of SAVE_CAL VDD, 5.10: its first byte is the opcode, then the parameters (R88). -/
theorem test_decodeTableWord : decodeTableWord 24 0x0A050E = some (.saveCal .vdd 0x05#8 0x0A#8) := by
  decide +kernel

/-! ### The codec (V-COD) -/

/-- V-COD-06 to V-COD-10. -/
theorem test_decFloat :
    decFloat 0x05#8 0x0A#8 = 0x40A33333#32 ∧ decFloat 0x00#8 0xC8#8 = 0x40000000#32 ∧
    decFloat 0xFF#8 0x63#8 = 0x437FFD71#32 := by
  decide +kernel

/-- V-COD-11, 12, 15, 17, 19, 20, 21. -/
theorem test_encFloat :
    encFloat 0xC0600000#32 = (0x00#8, 0x00#8) ∧ encFloat 0x3BA3D70A#32 = (0x00#8, 0x00#8) ∧
    encFloat 0x3F80A3D7#32 = (0x01#8, 0x00#8) ∧ encFloat 0x42C7FD71#32 = (0x64#8, 0x00#8) ∧
    encFloat 0x42520000#32 = (0x34#8, 0x32#8) ∧ encFloat 0x437FFEB8#32 = (0xFF#8, 0x63#8) ∧
    encFloat 0x7F800000#32 = (0xFF#8, 0x63#8) := by
  decide +kernel

/-- V-COD-01, 03, 04. -/
theorem test_hex :
    hexPair 0x0C#8 = [0x30#8, 0x43#8] ∧ unHexPair 0x61#8 0x62#8 = some 0xAB#8 ∧ unHexPair 0x47#8 0x30#8 = none := by
  decide

/-- V-REG-29: the draws 1279 to 1282 average to 1280.5, which is 5.001953125 V. -/
theorem test_uncal_averages :
    State.uncal { booted with env := { booted.env with adc := [1279#12, 1280#12, 1281#12, 1282#12] } } .vdd
      = 0x40A01000#32 := by
  decide +kernel

/-! ### Regulator operations (V-REG) -/

/-- V-REG-32: a new reference voltage stops the running regulator at its minimum duty. -/
theorem test_regConfigure_stops :
    see (.regConfigure .vdd { bootReg tb .vdd with vref := 0x40533333#32 }) atFifty
      (fun t => ((t.reg .vdd).running, (t.reg .vdd).duty, (t.pwm .vdd).armed, (t.reg .vdd).cfg.vref))
      = some (false, 0x41200000#32, false, 0x40533333#32) := by
  decide +kernel

/-- V-REG-35, V-REG-36. -/
theorem test_regConfigure_refused :
    see (.regConfigure .vpp { bootReg tb .vpp with pin := .num 10 }) booted State.refusals = some [.sharedPwmPin] ∧
    see (.regConfigure .vdd { bootReg tb .vdd with minDuty := 0x42BE0000#32 }) booted State.refusals
      = some [.illFormedConfig] := by
  decide +kernel

/-- V-REG-05: the duty restarts at the minimum. -/
theorem test_regStart_restarts :
    see (.regStart .vdd) atFifty (fun t => (t.a.result, (t.reg .vdd).duty, (t.pwm .vdd).freq))
      = some (.bool true, 0x41200000#32, 50000#32) := by
  decide +kernel

/-- V-REG-01. -/
theorem test_regStart_fails :
    see (.regStart .vdd) atReset (fun t => (t.a.result, (t.reg .vdd).running, (t.pwm .vdd).armed))
      = some (.bool false, false, false) := by
  decide +kernel

/-- V-REG-06. -/
theorem test_regStop :
    see (.regStop .vdd) atFifty (fun t => (t.a.result, (t.reg .vdd).running, (t.reg .vdd).duty, t.pwm .vdd))
      = some (.bool true, false, 0x41200000#32, { bootedPwm 10 with armed := false }) := by
  decide +kernel

/-- V-REG-09, V-REG-10: a negative target is 0; -0.0 equals 0.0 and writes nothing. -/
theorem test_regSetTarget_clamps :
    see (.regSetTarget .vdd 0xC0400000#32) { booted with regVdd := { bootedReg .vdd with target := 0x41000000#32 } }
      (fun t => (t.reg .vdd).target) = some 0x00000000#32 ∧
    see (.regSetTarget .vdd 0x80000000#32) booted (fun t => (t.reg .vdd).target) = some 0x00000000#32 := by
  decide +kernel

/-- V-REG-11. -/
theorem test_regSetTarget_nan :
    see (.regSetTarget .vdd 0x7FC00000#32) booted State.refusals = some [.nanOperand] := by
  decide +kernel

/-- V-REG-13: exactly at the far bound the slow step is taken. -/
theorem test_regAdjust_slow_at_far_bound :
    see (.regAdjust .vdd) (adjusting 0x42480000#32 768#12)
      (fun t => ((t.reg .vdd).measured, (t.reg .vdd).duty, (t.pwm .vdd).duty))
      = some (0x40400000#32, 0x424A0000#32, 0x424A0000#32) := by
  decide +kernel

/-- V-REG-25: the fast step down is clamped at the minimum, and written. -/
theorem test_regAdjust_clamps :
    see (.regAdjust .vdd) (adjusting 0x41400000#32 4080#12) (fun t => ((t.reg .vdd).duty, (t.pwm .vdd).duty))
      = some (0x41200000#32, 0x41200000#32) := by
  decide +kernel

/-- V-REG-39: the accessors. -/
theorem test_regulator_accessors :
    let s := { booted with
      regVdd := { bootedReg .vdd with measured := 0x40A00000#32, duty := 0x424A0000#32, target := 0x41000000#32
                                      cal := 0xBE800000#32 } }
    see (.regGetV .vdd) s (fun t => t.a.result) = some (.f32 0x40A00000#32) ∧
    see (.regGetDuty .vdd) s (fun t => t.a.result) = some (.f32 0x424A0000#32) ∧
    see (.regGetTarget .vdd) s (fun t => t.a.result) = some (.f32 0x41000000#32) ∧
    see (.regGetCal .vdd) s (fun t => t.a.result) = some (.f32 0xBE800000#32) ∧
    see (.regIsRunning .vdd) s (fun t => t.a.result) = some (.bool true) := by
  decide +kernel

/-- R132: any f32 is stored, and the NVM is not written. -/
theorem test_regSetCal :
    see (.regSetCal .vpp 0xBE800000#32) booted (fun t => ((t.reg .vpp).cal, (t.reg .vdd).cal, t.nvm))
      = some (0xBE800000#32, 0#32, []) := by
  decide +kernel

/-! ### Rail and container operations (V-RAIL) -/

/-- V-RAIL-06: the routing bits are cleared, the enable is kept. -/
theorem test_railConfigure_vpp :
    see (.railConfigure .vpp (bootRail tb .vpp))
      { booted with railVpp := { booted.railVpp with enabled := true, route := ⟨true, true, true, true, true⟩ } }
      (fun t => (t.railVpp.enabled, t.railVpp.route)) = some (true, ⟨false, false, false, false, false⟩) := by
  decide +kernel

/-- V-RAIL-07: a new enable pin clears the enable and the routing onto VPP. -/
theorem test_railConfigure_vdd :
    see (.railConfigure .vdd { bootRail tb .vdd with enPin := .num 22 })
      { booted with railVdd := { booted.railVdd with enabled := true, onVpp := true } }
      (fun t => (t.railVdd.enPin, t.railVdd.enabled, t.railVdd.onVpp)) = some (.num 22, false, false) := by
  decide +kernel

/-- V-RAIL-01, V-RAIL-04. -/
theorem test_railOn :
    see (.railOn .vdd) booted (fun t => (t.a.result, t.railVdd.enabled, t.railVpp.enabled))
      = some (.bool true, true, false) ∧
    see (.railOn .vpp) { atReset with railVpp := booted.railVpp } (fun t => (t.a.result, t.railVpp.enabled))
      = some (.bool false, false) := by
  decide +kernel

/-- V-RAIL-03, and R163. -/
theorem test_railOff :
    see (.railOff .vpp) atReset (fun t => t.a.result) = some (.bool false) ∧
    see (.railOff .vdd) { booted with railVdd := { booted.railVdd with enabled := true } } (fun t => t.railVdd.enabled)
      = some false := by
  decide +kernel

/-- V-RAIL-02, V-RAIL-05. -/
theorem test_railToggle_and_isOn :
    see (.railToggle .vdd) { booted with railVdd := { booted.railVdd with enabled := true } }
      (fun t => (t.a.result, t.railVdd.enabled)) = some (.bool true, false) ∧
    see (.railIsOn .vdd) atReset (fun t => t.a.result) = some (.bool false) := by
  decide +kernel

/-- V-RAIL-09, V-RAIL-10. -/
theorem test_railInitCal :
    see (.railInitCal .vdd 0xBF800000#32) { booted with regVdd := { bootedReg .vdd with cal := 0x3F000000#32 } }
      (fun t => ((t.reg .vdd).cal, (t.reg .vdd).target)) = some (0#32, 0#32) ∧
    see (.railInitCal .vdd 0x7FC00000#32) booted State.refusals = some [.nanOperand] := by
  decide +kernel

/-- V-RAIL-12: a negative offset, its record and its checksum. -/
theorem test_railSaveCal :
    see (.railSaveCal .vdd 0x409CCCCD#32) { adjusting 0#32 1280#12 with issuer := .a }
      (fun t => (t.a.result, (t.reg .vdd).cal, recordOf .vdd t))
      = some (.bool true, 0xBDCCCCC0#32, [0xC0#8, 0xCC#8, 0xCC#8, 0xBD#8, 0x15#8]) := by
  decide +kernel

/-- V-RAIL-14, V-REC-07: a valid record, and one whose offset is an infinity. -/
theorem test_railLoadCal :
    see (.railLoadCal .vdd) (withNvm [(0, 0x00#8), (1, 0x00#8), (2, 0x80#8), (3, 0x3F#8), (4, 0xBF#8)])
      (fun t => (t.a.result, (t.reg .vdd).cal)) = some (.bool true, 0x3F800000#32) ∧
    see (.railLoadCal .vdd) (withNvm [(0, 0x00#8), (1, 0x00#8), (2, 0x80#8), (3, 0x7F#8)])
      (fun t => (t.a.result, (t.reg .vdd).cal)) = some (.bool false, 0#32) := by
  decide +kernel

/-- V-RAIL-16, V-RAIL-18, and R171 to R173: each operation writes its own bit. -/
theorem test_vppSet_bits :
    see (.vppSetA9 true) booted (fun t => t.railVpp.route) = some ⟨true, false, false, false, false⟩ ∧
    see (.vppSetA18 true) booted (fun t => t.railVpp.route) = some ⟨false, true, false, false, false⟩ ∧
    see (.vppSetCe true) booted (fun t => t.railVpp.route) = some ⟨false, false, true, false, false⟩ ∧
    see (.vppSetOe true) booted (fun t => t.railVpp.route) = some ⟨false, false, false, true, false⟩ ∧
    see (.vppSetWe true) booted (fun t => t.railVpp.route) = some ⟨false, false, false, false, true⟩ := by
  decide +kernel

/-- R32, R169: the routing bits appear at their own positions, here 7, 6, 5, 1 and 0, and at no other. -/
theorem test_srOutput_positions :
    let s := { booted with build := { tb with routeBit := ⟨7, 6, 5, 1, 0⟩ } }
    see (.vppSetA9 true) s (fun t => (List.finRange 8).map t.srOutput)
      = some [some false, some false, none, none, none, some false, some false, some true] ∧
    see (.setWe 0x01#8) s (fun t => (List.finRange 8).map t.srOutput)
      = some [some true, some false, none, none, none, some false, some false, some false] := by
  decide +kernel

/-- V-RAIL-17: one unassigned shift-register pin is enough to fail. -/
theorem test_vppSetA18_fails :
    see (.vppSetA18 true) { booted with railVpp := { booted.railVpp with srPins := ⟨.unassigned, .num 4, .num 5⟩ } }
      (fun t => (t.a.result, t.railVpp.route.a18)) = some (.bool false, false) := by
  decide +kernel

/-- V-RAIL-19, V-RAIL-20. -/
theorem test_vddSetOnVpp :
    see (.vddSetOnVpp true) booted (fun t => (t.a.result, t.railVdd.onVpp)) = some (.bool true, true) ∧
    see (.vddSetOnVpp true) atReset (fun t => (t.a.result, t.railVdd.onVpp)) = some (.bool false, false) := by
  decide +kernel

/-- V-RAIL-21: one half fails, the other takes effect. -/
theorem test_railsStart :
    see .railsStart { atReset with regVdd := { bootedReg .vdd with running := false } }
      (fun t => (t.a.result, t.regVdd.running, t.regVpp.running)) = some (.bool false, true, false) := by
  decide +kernel

/-- V-RAIL-23, V-RAIL-22. -/
theorem test_railsStop_and_isRunning :
    see .railsStop booted (fun t => (t.a.result, t.regVdd.running, t.regVpp.running, t.pwmVdd.armed, t.pwmVpp.armed))
      = some (.bool true, false, false, false, false) ∧
    see .railsIsRunning { atReset with regVdd := bootedReg .vdd } (fun t => t.a.result) = some (.bool false) := by
  decide +kernel

/-! ### Sequencer operations (V-SEQ) -/

/-- V-SEQ-01, V-SEQ-02. -/
theorem test_seqLaunch :
    see .seqLaunch { atReset with fifoAtoB := some 5#32 } (fun t => (t.seq, t.fifoAtoB, t.a.wait))
      = some (⟨.starting, .entry⟩, none, .launch) ∧
    see .seqLaunch booted (fun t => (t.seq, t.a.wait)) = some (⟨.running, .check⟩, .none) := by
  decide +kernel

/-- V-SEQ-04, V-SEQ-03. -/
theorem test_seqStop :
    see .seqStop booted (fun t => (t.seq, t.a.wait)) = some (⟨.stopping, .check⟩, .stop) ∧
    see .seqStop atReset (fun t => (t.seq, t.a.wait)) = some (⟨.stopped, .idle⟩, .none) := by
  decide +kernel

/-- V-SEQ-14, V-SEQ-15. -/
theorem test_seqStatus :
    see .seqIsStopRequested (withSeq .stopping .check) (fun t => t.a.result) = some (.bool true) ∧
    see .seqGetStatus atReset (fun t => t.a.result) = some (.status .stopped) := by
  decide +kernel

/-- V-SEQ-10, V-SEQ-11. -/
theorem test_seqLock :
    see .seqLock booted (fun t => (t.mutex, t.a.wait)) = some (some .a, .none) ∧
    see .seqLock { booted with mutex := some .a } (fun t => (t.mutex, t.a.stuck)) = some (some .a, true) := by
  decide +kernel

/-- V-SEQ-12, and P4 row 10. -/
theorem test_seqUnlock :
    see .seqUnlock booted State.refusals = some [.unlockNotOwner] ∧
    see .seqUnlock { booted with mutex := some .a } (fun t => (t.mutex, t.refusals)) = some (none, []) := by
  decide +kernel

/-- V-SEQ-07, V-SEQ-08. -/
theorem test_seqPutParam :
    see (.seqPutParam 0x2A#32) booted (fun t => (t.fifoAtoB, t.fifoBtoA, t.a.wait)) = some (some 0x2A#32, none, .none) ∧
    see (.seqPutParam 0x2B#32) { booted with fifoAtoB := some 0x2A#32 } (fun t => (t.fifoAtoB, t.a.wait))
      = some (some 0x2A#32, .put 0x2B#32) := by
  decide +kernel

/-- V-SEQ-05, and R219 for A, whose channel is B's. -/
theorem test_seqGetParam :
    see .seqGetParam atReset (fun t => t.a.result) = some .noValue ∧
    see .seqGetParam { booted with fifoAtoB := some 1#32, fifoBtoA := some 7#32 }
      (fun t => (t.a.result, t.fifoAtoB, t.fifoBtoA)) = some (.u32 7#32, some 1#32, none) := by
  decide +kernel

/-- V-REG-31. -/
theorem test_contextViolation : see (.regAdjust .vdd) booted State.refusals = some [.contextViolation] := by
  decide +kernel

/-! ### Wire commands (V-HOST) -/

/-- V-HOST-01. -/
theorem test_nop : see .nop booted (fun t => t.out) = some [[0x4F#8, 0x4B#8]] := by
  decide +kernel

/-- V-HOST-03, V-HOST-24. -/
theorem test_enable :
    see (.enable .vpp 0x80#8) booted (fun t => (t.out, t.railVpp.enabled)) = some ([[0x4F#8, 0x4B#8]], true) ∧
    see (.enable .vdd 0x01#8) { booted with railVdd := { booted.railVdd with enPin := .unassigned } } (fun t => t.out)
      = some [[0x4E#8, 0x4F#8, 0x4B#8]] := by
  decide +kernel

/-- V-HOST-06. -/
theorem test_setV :
    see (.setV .vpp 0x0C#8 0x32#8) booted (fun t => (t.out, (t.reg .vpp).target))
      = some ([[0x4F#8, 0x4B#8]], 0x41480000#32) := by
  decide +kernel

/-- R259's example: `OK0500`. -/
theorem test_getV :
    see (.getV .vdd) { booted with regVdd := { bootedReg .vdd with measured := 0x40A00000#32 } } (fun t => t.out)
      = some [[0x4F#8, 0x4B#8, 0x30#8, 0x35#8, 0x30#8, 0x30#8]] := by
  decide +kernel

/-- R260's example: `OK3432`. -/
theorem test_getDuty :
    see (.getDuty .vdd) { booted with regVdd := { bootedReg .vdd with duty := 0x42520000#32 } } (fun t => t.out)
      = some [[0x4F#8, 0x4B#8, 0x33#8, 0x34#8, 0x33#8, 0x32#8]] := by
  decide +kernel

/-- R261: `OK0019` for 0.25, `OK0000` for a negative offset. -/
theorem test_getCal :
    see (.getCal .vpp) { booted with regVpp := { bootedReg .vpp with cal := 0x3E800000#32 } } (fun t => t.out)
      = some [[0x4F#8, 0x4B#8, 0x30#8, 0x30#8, 0x31#8, 0x39#8]] ∧
    see (.getCal .vpp) { booted with regVpp := { bootedReg .vpp with cal := 0xBE800000#32 } } (fun t => t.out)
      = some [[0x4F#8, 0x4B#8, 0x30#8, 0x30#8, 0x30#8, 0x30#8]] := by
  decide +kernel

/-- V-HOST-11. -/
theorem test_initCal :
    see (.initCal .vdd) { booted with regVdd := { bootedReg .vdd with cal := 0x3F000000#32 } }
      (fun t => (t.out, (t.reg .vdd).cal, (t.reg .vdd).target)) = some ([[0x4F#8, 0x4B#8]], 0#32, 0x40A00000#32) := by
  decide +kernel

/-- V-HOST-13. -/
theorem test_saveCal :
    see (.saveCal .vdd 0x05#8 0x0A#8) (adjusting 0#32 1280#12)
      (fun t => (t.out, (t.reg .vdd).cal, recordOf .vdd t, recordOf .vpp t))
      = some ([[0x4F#8, 0x4B#8]], 0x3DCCCCC0#32, [0xC0#8, 0xCC#8, 0xCC#8, 0x3D#8, 0x95#8], List.replicate 5 0xFF#8) := by
  decide +kernel

/-- V-HOST-14, V-HOST-15. -/
theorem test_switches :
    see (.setA9 0x01#8) booted (fun t => t.railVpp.route) = some ⟨true, false, false, false, false⟩ ∧
    see (.setA18 0x01#8) booted (fun t => t.railVpp.route) = some ⟨false, true, false, false, false⟩ ∧
    see (.setCe 0xFF#8) booted (fun t => t.railVpp.route) = some ⟨false, false, true, false, false⟩ ∧
    see (.setOe 0x01#8) booted (fun t => t.railVpp.route) = some ⟨false, false, false, true, false⟩ ∧
    see (.setWe 0x01#8) booted (fun t => t.railVpp.route) = some ⟨false, false, false, false, true⟩ := by
  decide +kernel

/-- V-HOST-25, V-HOST-16. -/
theorem test_switches_answer :
    see (.setWe 0x01#8) atReset (fun t => (t.out, t.railVpp.route.we)) = some ([[0x4E#8, 0x4F#8, 0x4B#8]], false) ∧
    see (.setVddOnVpp 0x01#8) booted (fun t => (t.out, t.railVdd.onVpp)) = some ([[0x4F#8, 0x4B#8]], true) := by
  decide +kernel

/-! ### Steps of the agents -/

/-- V-HOST-17: the second character of `FF` is answered `NOK`, and the next character starts a new opcode. -/
theorem test_step_unrecognized :
    seeStep { booted with pos := .opcodeSecond 0x46#8
                          env := { booted.env with host := [.char 0x46#8, .char 0x30#8], sched := [.a] } }
      (fun t => (t.out, t.pos, t.env.host)) = some ([[0x4E#8, 0x4F#8, 0x4B#8]], .opcodeFirst, [.char 0x30#8]) := by
  decide +kernel

/-- V-HOST-21: a short read is dropped without a response. -/
theorem test_step_short_read :
    seeStep { booted with pos := .params 0x04#8 [0x30#8, 0x35#8]
                          env := { booted.env with host := [.timeout], sched := [.a] } }
      (fun t => (t.out, t.pos, (t.reg .vdd).target)) = some ([], .opcodeFirst, 0#32) := by
  decide +kernel

/-- V-HOST-22: a non-hex parameter character is answered `NOK`. -/
theorem test_step_bad_parameter :
    seeStep { booted with pos := .params 0x02#8 [0x30#8]
                          env := { booted.env with host := [.char 0x5A#8], sched := [.a] } }
      (fun t => (t.out, t.pos)) = some ([[0x4E#8, 0x4F#8, 0x4B#8]], .opcodeFirst) := by
  decide +kernel

/-- R220, R226: the entry and the exit of the loop. -/
theorem test_step_entry_exit :
    seeStep { withSeq .starting .entry with env := { booted.env with sched := [.b] } } State.seq
      = some ⟨.running, .check⟩ ∧
    seeStep { withSeq .stopping .exit with env := { booted.env with sched := [.b] } } State.seq
      = some ⟨.stopped, .idle⟩ := by
  decide +kernel

/-- V-SEQ-16: A holds in its stop and owns the mutex, B is at an adjust step: the machine is stuck. -/
theorem test_step_deadlock :
    step { withSeq .stopping .adjVdd with
           mutex := some .a
           a := { CtxState.reset with wait := .stop }
           env := { booted.env with sched := [.b] } } = .fault .deadlock := by
  rfl

/-- V-SEQ-17: the same with B at `Sleep1`: B's step runs, and then the machine is stuck. -/
theorem test_step_deadlock_from_sleep1 :
    let s : State := { withSeq .stopping .sleep1 with
      mutex := some .a, a := { CtxState.reset with wait := .stop }, env := { booted.env with sched := [.b, .a] } }
    (match step s with
      | .next t => match step t with
        | .fault .deadlock => some t.seq.phase
        | _ => none
      | _ => none) = some .adjVpp := by
  decide +kernel

/-- V-ENC-12: an internal selector of no row marks the run. -/
theorem test_step_unknown_selector :
    seeStep { booted with a := { CtxState.reset with prog := [⟨0xFF#8, .none⟩] }, env := { booted.env with sched := [.a] } }
      (fun t => (t.refusals, t.a.prog)) = some ([.unknownSelector], []) := by
  decide +kernel

/-- R330, R331: a reset keeps the NVM and clears the rest. -/
theorem test_step_reset :
    seeStep { withNvm [(2, 0xCD#8)] with out := [okText], env := { booted.env with sched := [.reset] } }
      (fun t => (t.nvm, t.out, t.regVdd, t.pos)) = some ([(2, 0xCD#8)], [], RegState.reset, .boot .configureVdd) := by
  decide +kernel

/-- The host's placing: the operation of a table word is the next step, right after reset. -/
theorem test_withFetchWord :
    seeStep (atReset.withFetchWord 8 0xD6) (fun t => t.a.result) = some (.status .stopped) ∧
    seeStep (atReset.withFetchWord 8 0x88) (fun t => (t.refusals, t.issuer)) = some ([], .b) := by
  decide +kernel

end Sys2Proof.Tests
end

