-- ==== Sys2Proof/Tests/Witnesses.lean ====
section
/-! SUPPORT. For every statement that has hypotheses, a concrete state and operands that meet all of them together, and for
a statement of several clauses one for each clause, at the values where the clauses meet. -/

namespace Sys2Proof.Tests
set_option Elab.async false
open Sys2Proof.Machine Sys2Proof.Claims

/-! ### Shared witnesses -/

theorem booted_canRun : CanRun .a booted := ⟨rfl, .inl rfl⟩
theorem atReset_canRun : CanRun .a atReset := ⟨rfl, .inl rfl⟩
theorem locked_canRun : CanRun .a { booted with mutex := some .a } := ⟨rfl, .inr rfl⟩
theorem adjusting_canRun (d : F32) (k : AdcCode) : CanRun .b (adjusting d k) := ⟨rfl, .inl rfl⟩
theorem booted_atRest (c : Ctx) : AtRest c booted := by cases c <;> exact ⟨rfl, rfl, rfl⟩

/-- `booted` with one listed move. -/
def moving (m : Move) : State := { booted with env := { booted.env with sched := [m] } }

/-- `booted` with a regulator configuration of VDD. -/
def withCfg (c : RegulatorConfig) : State := { booted with regVdd := { bootedReg .vdd with cfg := c } }

theorem booted_regInv (r : Rail) : (booted.reg r).Inv := by
  cases r <;> exact ⟨.inr (by decide +kernel), fun _ => by decide +kernel, by decide +kernel, by decide +kernel⟩

theorem booted_duty (r : Rail) : DutyInBounds (booted.reg r) := by
  cases r <;> exact ⟨by decide +kernel, by decide +kernel⟩

theorem testBuild_sound : Build.Sound tb := by
  refine ⟨by decide, ?_, ?_, ?_, by decide⟩ <;> intro r <;> cases r <;> decide +kernel

/-! ### Encoding -/

theorem witness_DecodeOfEncodeIsIdentity :
    Instr.wf (.regConfigure .vpp { bootReg tb .vpp with pin := .num 254, channel := .num 254 }) = true ∧
    Instr.wf (.setV .vdd 0xFF#8 0xFF#8) = true := by
  decide

theorem witness_EncodeOfDecodeIsIdentity :
    decode (.wire [0x1A#8, 0xFF#8]) = .ok (.setVddOnVpp 0xFF#8) ∧
    decode (.internal ⟨0xA1#8, .rail (bootRail tb .vpp)⟩) = .ok (.railConfigure .vpp (bootRail tb .vpp)) := by
  decide

theorem witness_SpacesNeverCross : (0x80#8).getLsbD 7 = true ∧ (0x7F#8).getLsbD 7 = false := by
  decide

/-- The characters next to the three ranges of hex digits are not hex. -/
theorem witness_FrameVerdictByCase :
    ([0x30#8] : Text).length < 2 ∧ unHexPair 0x30#8 0x61#8 = some 0x0A#8 ∧ unHexPair 0x30#8 0x31#8 = some 0x01#8 ∧
    ([0x2F#8, 0x3A#8, 0x40#8, 0x47#8, 0x60#8, 0x67#8].all fun c => (hexVal c).isNone) = true ∧
    ([0x30#8, 0x39#8, 0x41#8, 0x46#8, 0x61#8, 0x66#8].all fun c => (hexVal c).isSome) = true ∧
    (wireRow 0x01#8).isNone = true ∧
    (wireRow 0x02#8).any (fun row => ([0x30#8] : Text).length != 2 * row.params && row.params == 1) = true := by
  decide

/-- A NaN, zero and the least positive value; the largest value below 256, which saturates; 256. -/
theorem witness_EncFloatRoundsHundredths :
    f32IsNaN 0x7FC00000#32 = true ∧ f32Gt 0x80000000#32 f32_0 = false ∧ f32Gt 0x00000001#32 f32_0 = true ∧
    (f32Gt 0x437FFFFF#32 f32_0 = true ∧ f32Ge 0x437FFFFF#32 f32_256 = false ∧
      25600 ≤ (200 * f32Mag 0x437FFFFF#32 + 2 ^ 149) / 2 ^ 150) ∧
    (200 * f32Mag 0x437FFEB8#32 + 2 ^ 149) / 2 ^ 150 < 25600 ∧ f32Ge f32_256 f32_256 = true := by
  decide +kernel

/-- Zero and the largest value of the range. -/
theorem witness_FloatCodecRoundTripWithin :
    (f32Ge 0x00000000#32 f32_0 = true ∧ 1000 * f32Val 0x00000000#32 < 255995 * 2 ^ 149) ∧
    (f32Ge 0x437FFEB8#32 f32_0 = true ∧ 1000 * f32Val 0x437FFEB8#32 < 255995 * 2 ^ 149) := by
  decide +kernel

/-! ### Arithmetic -/

/-- A tie between two finite values, the largest value that rounds to a finite one, and half past the largest one. -/
theorem witness_RoundingIsNearestTiesToEven :
    f32Finite (f32Round false (2 ^ 24 + 1) 1) = true ∧ f32Finite (f32Round false ((2 ^ 25 - 1) * 2 ^ 252 - 1) 1) = true ∧
    f32Finite (f32Round true ((2 ^ 25 - 1) * 2 ^ 252) 1) = false := by
  decide +kernel

theorem witness_ArithmeticIsNearest :
    (f32Finite 0x40A33333#32 = true ∧ f32Finite 0xC0A00000#32 = true ∧ f32Val 0xC0A00000#32 ≠ 0) ∧
    f32Finite (f32Add 0x40A33333#32 0xC0A00000#32) = true ∧ f32Finite (f32Sub 0x40A33333#32 0xC0A00000#32) = true ∧
    f32Finite (f32Mul 0x40A33333#32 0xC0A00000#32) = true ∧ f32Finite (f32Div 0x40A33333#32 0xC0A00000#32) = true := by
  decide +kernel

/-! ### The regulator -/

/-- Ill formed; shared with the other rail's pin; a change that does not stop; one that does. -/
theorem witness_RegConfigureResult :
    CanRun .a booted ∧ cfgWF { bootReg tb .vdd with minDuty := 0x42BE0000#32 } = false ∧
    (cfgWF { bootReg tb .vdd with pin := .num 11 } = true ∧ (booted.reg .vpp).cfg.pin = .num 11) ∧
    (cfgWF { bootReg tb .vdd with slowStep := 0x3F800000#32 } = true ∧
      stopsOnConfigure true (bootReg tb .vdd) { bootReg tb .vdd with slowStep := 0x3F800000#32 } = false) ∧
    (cfgWF { bootReg tb .vdd with pin := .num 12 } = true ∧ (booted.reg .vdd).running = true ∧
      Pin.num 12 ≠ (booted.reg .vdd).cfg.pin) := by
  exact ⟨booted_canRun, by decide +kernel, by decide +kernel, by decide +kernel, by decide +kernel⟩

theorem witness_RegStartArmsRegStopDisarms :
    CanRun .a booted ∧ configured (booted.reg .vdd).cfg = true ∧ CanRun .a atReset ∧
    configured (atReset.reg .vdd).cfg = false := by
  exact ⟨booted_canRun, by decide, atReset_canRun, by decide⟩

/-- A NaN; a value equal to the target after the clamp; a new target. -/
theorem witness_RegSetTargetClamps :
    CanRun .a booted ∧ f32IsNaN 0x7FC00000#32 = true ∧
    (f32IsNaN 0x80000000#32 = false ∧ f32Eq 0x80000000#32 (booted.reg .vdd).target = true) ∧
    (f32IsNaN 0x41000000#32 = false ∧ f32Eq 0x41000000#32 (booted.reg .vdd).target = false) := by
  exact ⟨booted_canRun, by decide +kernel⟩

theorem witness_RegAdjustResult_stops :
    booted.issuer = .a ∧ (CanRun .b { atReset with issuer := .b } ∧ (atReset.reg .vdd).running = false) ∧
    (CanRun .b { withCfg { bootReg tb .vdd with channel := .unassigned } with issuer := .b } ∧
      ((withCfg { bootReg tb .vdd with channel := .unassigned }).reg .vdd).running = true) := by
  exact ⟨rfl, ⟨⟨rfl, .inl rfl⟩, rfl⟩, ⟨⟨rfl, .inl rfl⟩, rfl⟩⟩

/-- V-REG-13, whose duty moves, and V-REG-24, absorbed at the bound. -/
theorem witness_RegAdjustResult :
    CanRun .b (adjusting 0x42480000#32 768#12) ∧ ((adjusting 0x42480000#32 768#12).reg .vdd).running = true ∧
    ((adjusting 0x42480000#32 768#12).reg .vdd).cfg.channel ≠ .unassigned ∧
    see (.regAdjust .vdd) (adjusting 0x42480000#32 768#12) (fun t => (t.reg .vdd).duty != 0x42480000#32) = some true ∧
    see (.regAdjust .vdd) (adjusting 0x42B40000#32 0#12) (fun t => (t.reg .vdd).duty) = some 0x42B40000#32 := by
  exact ⟨adjusting_canRun _ _, rfl, by decide, by decide +kernel, by decide +kernel⟩

theorem witness_UncalIsScaledAverage :
    (adjusting 0x42480000#32 768#12).build.adcAvgSamples ≤ (adjusting 0x42480000#32 768#12).env.adc.length := by
  decide

/-- Target 8 (bands 6, 10, 3, 15): below, at and between the bounds, and a NaN. -/
theorem witness_StepSelectionInOrder :
    let w := bandsOf 0x41000000#32 (bootReg tb .vdd)
    f32Lt 0x40000000#32 w.fMin = true ∧ f32Gt 0x417F0000#32 w.fMax = true ∧
    (f32Lt 0x40400000#32 w.fMin = false ∧ f32Gt 0x40400000#32 w.fMax = false ∧ f32Lt 0x40400000#32 w.tMin = true) ∧
    (f32Gt 0x41700000#32 w.fMax = false ∧ f32Lt 0x41700000#32 w.tMin = false ∧ f32Gt 0x41700000#32 w.tMax = true) ∧
    (f32Lt 0x40C00000#32 w.tMin = false ∧ f32Gt 0x41200000#32 w.tMax = false) ∧ f32IsNaN 0x7FC00000#32 = true := by
  decide +kernel

theorem witness_AccessorsReadAndOffsetSetterWrites : CanRun .a { booted with mutex := some .a } := locked_canRun

theorem witness_DutyBoundedAfterStartAndAdjusts :
    booted.mutex = none ∧ booted.issuer = .a ∧ cfgWF (booted.reg .vdd).cfg = true ∧
    configured (booted.reg .vdd).cfg = true ∧ ∃ t, exec (.regStart .vdd) booted = .next t := by
  exact ⟨rfl, rfl, by decide +kernel, by decide, ⟨_, rfl⟩⟩

theorem witness_RunningDutyBounded :
    (CanRun .b { booted with issuer := .b } ∧ (booted.reg .vdd).running = true ∧
      (booted.reg .vdd).cfg.channel ≠ .unassigned ∧ (booted.reg .vdd).Inv ∧
      ∃ t, exec (.regAdjust .vdd) { booted with issuer := .b } = .next t) ∧
    (∃ t, step (moving .b) = .next t ∧ (t.reg .vdd).running = true ∧
      (t.reg .vdd).cfg = ((moving .b).reg .vdd).cfg) ∧
    ((moving .b).reg .vdd).Inv ∧ DutyInBounds ((moving .b).reg .vdd) := by
  exact ⟨⟨⟨rfl, .inl rfl⟩, rfl, by decide, booted_regInv .vdd, ⟨_, rfl⟩⟩, ⟨_, rfl, rfl, rfl⟩, booted_regInv .vdd,
    booted_duty .vdd⟩

/-- In band at the lower bound 6 (V-REG-15) and at the upper bound 10 (V-REG-17). -/
theorem witness_SteadyStateHoldsDuty :
    ([1536#12, 2560#12].all fun k =>
      let s := adjusting 0x42480000#32 k
      let w := bandsOf (s.reg .vdd).target (s.reg .vdd).cfg
      let actual := f32Add (s.uncal .vdd) (s.reg .vdd).cal
      cfgWF (s.reg .vdd).cfg && f32Ge (s.reg .vdd).target f32_0 && f32Le (s.reg .vdd).cfg.minDuty (s.reg .vdd).duty
        && f32Le (s.reg .vdd).duty (s.reg .vdd).cfg.maxDuty && f32Le w.tMin actual && f32Le actual w.tMax) = true := by
  decide +kernel

/-- Below the band, and above it. -/
theorem witness_AdjustMovesDutyTowardTarget :
    (let s := adjusting 0x42480000#32 1535#12
     f32Lt (f32Add (s.uncal .vdd) (s.reg .vdd).cal) (bandsOf (s.reg .vdd).target (s.reg .vdd).cfg).tMin = true) ∧
    (let s := adjusting 0x42480000#32 2561#12
     f32Gt (f32Add (s.uncal .vdd) (s.reg .vdd).cal) (bandsOf (s.reg .vdd).target (s.reg .vdd).cfg).tMax = true) ∧
    cfgWF ((adjusting 0x42480000#32 1535#12).reg .vdd).cfg = true ∧
    f32Ge ((adjusting 0x42480000#32 1535#12).reg .vdd).target f32_0 = true := by
  decide +kernel

/-! ### The rails -/

theorem witness_RailConfigureResult :
    CanRun .a booted ∧ cfgWF { bootReg tb .vdd with vref := 0x00000000#32 } = false ∧
    (cfgWF (bootReg tb .vdd) = true ∧ (booted.reg .vdd).cfg.pin ≠ (booted.reg .vpp).cfg.pin) ∧
    (cfgWF { bootReg tb .vdd with pin := .num 11 } = true ∧ (booted.reg .vpp).cfg.pin = .num 11) := by
  exact ⟨booted_canRun, by decide +kernel, by decide +kernel, by decide +kernel⟩

/-- Configured with an enable pin; configured without one; with one and not configured. -/
theorem witness_RailEnableOperations :
    CanRun .a booted ∧ (booted.enPin .vdd ≠ .unassigned ∧ configured (booted.reg .vdd).cfg = true) ∧
    atReset.enPin .vdd = .unassigned ∧
    (let s := { atReset with railVpp := booted.railVpp }
     s.enPin .vpp ≠ .unassigned ∧ configured (s.reg .vpp).cfg = false) := by
  exact ⟨booted_canRun, by decide, rfl, by decide⟩

theorem witness_RailInitCalBeginsSession :
    CanRun .a booted ∧ f32IsNaN 0x7FC00000#32 = true ∧
    (f32IsNaN 0xBF800000#32 = false ∧ f32Lt 0xBF800000#32 f32_0 = true ∧ f32Eq f32_0 (booted.reg .vdd).target = true) ∧
    (f32Lt 0x40A00000#32 f32_0 = false ∧ f32Eq 0x40A00000#32 (booted.reg .vdd).target = false) := by
  exact ⟨booted_canRun, by decide +kernel⟩

theorem witness_RailSaveCalStoresRecord :
    CanRun .a booted ∧ nvmWf booted.nvm = true ∧ 13 ≤ booted.build.nvmSize ∧ booted.enPin .vpp ≠ .unassigned ∧
    configured (booted.reg .vpp).cfg = true ∧ OutsideRecord .vpp 0x07 ∧ OutsideRecord .vpp 0x0D ∧
    (CanRun .a atReset ∧ 13 ≤ atReset.build.nvmSize ∧ atReset.enPin .vpp = .unassigned) := by
  exact ⟨booted_canRun, rfl, by decide, by decide, by decide, .inl (by decide), .inr (by decide), atReset_canRun,
    by decide, rfl⟩

/-- The record `00 00 80 3F BF` is valid; the erased one is not. -/
theorem witness_RailLoadCalChecksRecord :
    CanRun .a booted ∧ 13 ≤ booted.build.nvmSize ∧ booted.recordValid .vdd = false ∧
    (withNvm [(0, 0x00#8), (1, 0x00#8), (2, 0x80#8), (3, 0x3F#8), (4, 0xBF#8)]).recordValid .vdd = true := by
  exact ⟨booted_canRun, by decide, by decide +kernel, by decide +kernel⟩

/-- A storage of 12 bytes. -/
theorem witness_RecordBeyondStorageRefused :
    let s := { booted with build := { tb with nvmSize := 12 } }
    CanRun .a s ∧ s.build.nvmSize < 13 ∧ s.enPin .vdd ≠ .unassigned ∧ configured (s.reg .vdd).cfg = true := by
  exact ⟨⟨rfl, .inl rfl⟩, by decide, by decide, by decide⟩

theorem witness_CalibrationRecordRoundTrip : nvmWf booted.nvm = true ∧ f32Finite 0x80000000#32 = true := by
  decide

/-- The checksum byte, the last of the record. -/
theorem witness_SingleByteCorruptionDetected :
    nvmWf booted.nvm = true ∧ 0x3F#8 ≠ (booted.saveRecord .vdd 0x3F800000#32).nvmByte (Config.calBase .vdd + 4) := by
  decide +kernel

theorem witness_CalibrationSessionReloads :
    let s := { adjusting 0x42480000#32 1280#12 with issuer := .a }
    CanRun .a s ∧ nvmWf s.nvm = true ∧ 13 ≤ s.build.nvmSize ∧ s.enPin .vdd ≠ .unassigned ∧
    configured (s.reg .vdd).cfg = true ∧ f32Finite (f32Sub 0x40A33333#32 (s.uncal .vdd)) = true ∧
    (∃ t, exec (.railSaveCal .vdd 0x40A33333#32) s = .next t) ∧
    see (.railSaveCal .vdd 0x40A33333#32) s (fun t => t.nvmByte (Config.calBase .vdd + 2) != 0xCD#8) = some true := by
  exact ⟨⟨rfl, .inl rfl⟩, rfl, by decide, by decide, by decide, by decide +kernel, ⟨_, rfl⟩, by decide +kernel⟩

/-- All three pins; one missing. -/
theorem witness_VariantOutputsWriteTheirBit :
    CanRun .a booted ∧ srAssigned booted.railVpp.srPins = true ∧ booted.railVdd.onVppPin ≠ .unassigned ∧
    CanRun .a atReset ∧ atReset.railVdd.onVppPin = .unassigned ∧
    srAssigned ⟨.num 3, .num 4, .unassigned⟩ = false := by
  exact ⟨booted_canRun, by decide, by decide, atReset_canRun, rfl, by decide⟩

/-- The premise on a routing position: the only bit there, and two at one position that both hold the value. -/
theorem witness_DrivesBit :
    (∃ t, exec (.vppSetA18 true) booted = .next t ∧ AllAt t booted.build.routeBit.a18 true) ∧
    (let s := { booted with build := { tb with routeBit := ⟨3, 3, 2, 1, 0⟩ }
                            railVpp := { booted.railVpp with route := ⟨true, false, false, false, false⟩ } }
     ∃ t, exec (.vppSetA18 true) s = .next t ∧ AllAt t 3 true) := by
  exact ⟨⟨_, rfl, by unfold AllAt; decide +kernel⟩, ⟨_, rfl, by unfold AllAt; decide +kernel⟩⟩

/-- One rail configured and the other not; both. -/
theorem witness_ContainerAttemptsBothRails :
    CanRun .a booted ∧ configured (booted.reg .vdd).cfg = true ∧ configured (booted.reg .vpp).cfg = true ∧
    CanRun .a { atReset with regVdd := bootedReg .vdd } := by
  exact ⟨booted_canRun, by decide, by decide, ⟨rfl, .inl rfl⟩⟩

/-! ### The sequencer -/

theorem witness_SeqLaunchAndStopHold :
    (atReset.issuer = .a ∧ atReset.seq.status = .stopped) ∧ (booted.issuer = .a ∧ booted.seq.status = .running) ∧
    (withSeq .stopping .exit).issuer = .a := by
  decide

theorem witness_SeqLockAndUnlock :
    booted.mutex = none ∧ { booted with mutex := some Ctx.b }.mutex = some booted.issuer.other ∧
    { booted with mutex := some Ctx.a }.mutex = some booted.issuer := by
  decide

theorem witness_SeqChannels :
    (atReset.seq.status ≠ .running) ∧ (booted.seq.status = .running ∧ booted.outFifo .a = none ∧ booted.inFifo .a = none) ∧
    ({ booted with fifoAtoB := some 1#32 }.outFifo .a ≠ none) ∧
    ({ booted with fifoBtoA := some 7#32 }.inFifo .a = some 7#32) := by
  decide

/-- A context inside each blocking operation, with its condition holding and not; a stuck one. -/
theorem witness_HeldOperationsComplete :
    let held (w : Wait) : State := { booted with a := { CtxState.reset with wait := w } }
    ({ booted with a := { CtxState.reset with stuck := true } }.ctx .a).stuck = true ∧
    (((held .launch).ctx .a).stuck = false ∧ ((held .launch).ctx .a).wait = .launch ∧
      (held .launch).seq.status = .running) ∧
    (((held .stop).ctx .a).wait = .stop ∧ (held .stop).seq.status ≠ .stopped) ∧
    (((held .lock).ctx .a).wait = .lock ∧ (held .lock).mutex = none) ∧
    (((held (.put 1#32)).ctx .a).wait = .put 1#32 ∧ (held (.put 1#32)).outFifo .a = none) ∧
    (((held .get).ctx .a).wait = .get ∧ (held .get).inFifo .a = none) ∧
    ({ held .get with fifoBtoA := some 7#32 }.inFifo .a = some 7#32) := by
  decide

theorem witness_StatusMovesOnlyAlongCycle :
    (∃ t, step (moving .b) = .next t) ∧ (moving .b).seq.Inv ∧ (moving .b).nextMove ≠ .reset := by
  exact ⟨⟨_, rfl⟩, .inl rfl, by decide⟩

/-- B at rest in each phase; at an adjust step with the mutex free, its own, and A's. -/
theorem witness_LoopStepsByPhase :
    (∀ st p, AtRest .b (withSeq st p) ∧ (withSeq st p).seq.phase = p) ∧
    (withSeq .running .adjVdd).mutex ≠ some .a ∧
    AtRest .b { withSeq .running .adjVpp with mutex := some .a } := by
  exact ⟨fun st p => ⟨⟨rfl, rfl, rfl⟩, rfl⟩, by decide, ⟨rfl, rfl, rfl⟩⟩

/-- A in its stop with the mutex, B at each phase of the clauses, with the moves they list. -/
theorem witness_StopUnderOwnMutexDeadlocks :
    let at_ (p : Phase) (ms : List Move) : State := { withSeq .stopping p with
      mutex := some .a, a := { CtxState.reset with wait := .stop }, env := { booted.env with sched := ms } }
    (∀ p ms, (at_ p ms).a.stuck = false ∧ (at_ p ms).a.wait = .stop ∧ (at_ p ms).mutex = some .a ∧
      (at_ p ms).seq.status = .stopping ∧ AtRest .b (at_ p ms) ∧ (at_ p ms).seq.phase = p) ∧
    (at_ .adjVdd [.a]).nextMove ≠ .reset ∧ (at_ .adjVpp [.b]).nextMove ≠ .reset ∧
    (at_ .sleep1 [.a]).nextMove = .a ∧ (at_ .sleep1 [.b, .a]).nextMove = .b ∧
    (at_ .check [.b, .b, .a]).env.sched = [.b, .b, .a] ++ [] ∧
    (at_ .sleep2 [.b, .b, .b, .a]).env.sched = [.b, .b, .b, .a] ++ [] := by
  exact ⟨fun p ms => ⟨rfl, rfl, rfl, rfl, ⟨rfl, rfl, rfl⟩, rfl⟩, by decide, by decide, rfl, rfl, rfl, rfl⟩

/-- One that runs, and one that holds. -/
theorem witness_SharedOperationsRespectMutex :
    needsMutex .railsStart = true ∧ (∃ t, exec .railsStart booted = .next t) ∧
    (let s := { booted with mutex := some Ctx.b }
     (ctxAllowed .railsStart).admits s.issuer = true ∧ s.mutex = some s.issuer.other ∧
     ∃ t, exec .railsStart s = .next t) := by
  exact ⟨rfl, ⟨_, rfl⟩, rfl, rfl, ⟨_, rfl⟩⟩

theorem witness_ForeignContextRefused :
    booted.issuer = .a ∧ decodeInternal ⟨0xD0#8, .none⟩ = .ok .seqLaunch ∧
    decodeInternal ⟨0x82#8, .none⟩ = .ok (.regStart .vdd) ∧ { booted with issuer := .b }.issuer = .b := by
  decide

/-! ### Host commands -/

theorem witness_EnableAndReadHandlers :
    booted.mutex ≠ some .b ∧ booted.enPin .vdd ≠ .unassigned ∧ configured (booted.reg .vdd).cfg = true ∧
    atReset.mutex ≠ some .b ∧ atReset.enPin .vdd = .unassigned := by
  decide

/-- The target the command writes, and the one it finds equal. -/
theorem witness_SetVHandler :
    booted.mutex ≠ some .b ∧ f32Eq (decFloat 0x00#8 0x00#8) (booted.reg .vdd).target = true ∧
    f32Eq (decFloat 0xFF#8 0xFF#8) (booted.reg .vdd).target = false := by
  decide +kernel

theorem witness_CalibrationHandlers :
    CanRun .a booted ∧ f32IsNaN (booted.build.rail .vdd).calReference = false ∧
    f32Eq (booted.build.rail .vdd).calReference (booted.reg .vdd).target = false ∧
    f32Eq 0x40A00000#32 (booted.build.rail .vdd).calReference = true ∧
    f32IsNaN (({ tb with vdd := { tb.vdd with calReference := 0x7FC00000#32 } } : Build).rail .vdd).calReference = true ∧
    (booted.enPin .vdd ≠ .unassigned ∧ configured (booted.reg .vdd).cfg = true ∧ 13 ≤ booted.build.nvmSize) ∧
    (CanRun .a atReset ∧ atReset.enPin .vdd = .unassigned) := by
  exact ⟨booted_canRun, by decide +kernel, by decide +kernel, by decide +kernel, by decide +kernel, by decide,
    atReset_canRun, rfl⟩

theorem witness_SwitchHandlers :
    booted.mutex ≠ some .b ∧ srAssigned booted.railVpp.srPins = true ∧ booted.railVdd.onVppPin ≠ .unassigned ∧
    atReset.mutex ≠ some .b ∧ srAssigned atReset.railVpp.srPins = false ∧ atReset.railVdd.onVppPin = .unassigned := by
  decide

/-- The first and the second character, a pair that is not hex, an unrecognized opcode, one without and one with
parameters, and no event. -/
theorem witness_OpcodeReading :
    AtRest .a booted ∧ booted.pos = .opcodeFirst ∧ booted.env.host = [] ∧
    AtRest .a { booted with pos := .opcodeSecond 0x30#8, env := { booted.env with host := [.timeout] } } ∧
    hexVal 0x5A#8 = none ∧ unHexPair 0x46#8 0x46#8 = some 0xFF#8 ∧ (wireRow 0xFF#8).isNone = true ∧
    unHexPair 0x30#8 0x36#8 = some 0x06#8 ∧ (wireRow 0x06#8).any (fun row => row.params == 0) = true ∧
    (wireRow 0x04#8).any (fun row => row.params == 2) = true := by
  exact ⟨booted_atRest .a, rfl, rfl, ⟨rfl, rfl, rfl⟩, by decide, by decide, by decide, by decide, by decide, by decide⟩

/-- The last of four parameter characters, hex and not; the one before it; lower case. -/
theorem witness_ParameterReading :
    (let s := { booted with pos := .params 0x04#8 [0x30#8, 0x61#8, 0x46#8] }
     AtRest .a s ∧ s.pos = .params 0x04#8 [0x30#8, 0x61#8, 0x46#8]) ∧
    (wireRow 0x04#8).any (fun row => ([0x30#8, 0x61#8, 0x46#8] : Text).length + 1 == 2 * row.params) = true ∧
    (wireRow 0x04#8).any (fun row => ([0x30#8, 0x61#8] : Text).length + 1 < 2 * row.params) = true ∧
    unHexPair 0x30#8 0x61#8 = some 0x0A#8 ∧ unHexPair 0x46#8 0x66#8 = some 0xFF#8 ∧ hexVal 0x67#8 = none := by
  exact ⟨⟨⟨rfl, rfl, rfl⟩, rfl⟩, by decide, by decide, by decide, by decide, by decide⟩

theorem witness_CommandTextReachesHandler :
    let s := { booted with env := { booted.env with host := chars (hexText [0x02#8, 0x01#8]) ++ [.timeout]
                                                    sched := List.replicate 4 .a ++ [.b] } }
    decodeWire [0x02#8, 0x01#8] = .ok (.enable .vdd 0x01#8) ∧ AtRest .a s ∧ s.pos = .opcodeFirst := by
  exact ⟨by decide, ⟨rfl, rfl, rfl⟩, rfl⟩

/-! ### One step, reset, boot -/

theorem witness_StepRunsDecodedOperation :
    (let s := { moving .a with a := { CtxState.reset with prog := [⟨0xC0#8, .none⟩] } }
     s.nextMove = turnOf .a ∧ (s.ctx .a).stuck = false ∧ (s.ctx .a).wait = .none ∧
     (s.ctx .a).prog = [⟨0xC0#8, .none⟩] ∧ decodeInternal ⟨0xC0#8, .none⟩ = .ok .railsStart ∧ s.mutex = none) ∧
    (let s := { moving .a with pos := .handler [0x02#8, 0x01#8] }
     s.nextMove = .a ∧ AtRest .a s ∧ s.pos = .handler [0x02#8, 0x01#8] ∧
     decodeWire [0x02#8, 0x01#8] = .ok (.enable .vdd 0x01#8) ∧ s.mutex ≠ some .b) ∧
    (let s := { atReset with env := { atReset.env with sched := [.a] } }
     s.nextMove = .a ∧ AtRest .a s ∧ s.pos = .boot .configureVdd ∧ s.mutex ≠ some .b) := by
  exact ⟨⟨rfl, rfl, rfl, rfl, by decide, rfl⟩, ⟨rfl, ⟨rfl, rfl, rfl⟩, rfl, by decide, by decide⟩,
    ⟨rfl, ⟨rfl, rfl, rfl⟩, rfl, by decide⟩⟩

theorem witness_StepRejectsBadIssue :
    (let s := { moving .b with b := { CtxState.reset with prog := [⟨0xFF#8, .none⟩] } }
     s.nextMove = turnOf .b ∧ (s.ctx .b).prog = [⟨0xFF#8, .none⟩]) ∧ (internalRow 0xFF#8).isNone = true ∧
    decodeInternal ⟨0x86#8, .bool true⟩ = .error .operandType := by
  exact ⟨⟨rfl, rfl⟩, by decide, by decide⟩

theorem witness_PlacedWordRunsNext :
    decodeTableWord 8 0x89 = some (.regAdjust .vpp) ∧ decodeTableWord 24 0x32_0C_05 = some (.setV .vpp 0x0C#8 0x32#8) := by
  decide +kernel

theorem witness_ResetValues : (moving .reset).nextMove = .reset := rfl

theorem witness_StateAfterBoot :
    Build.Sound tb ∧ ({ Env.initial with sched := [.a, .a, .a, .a, .a, .a, .b, .a] } : Env).sched
      = [.a, .a, .a, .a, .a, .a, .b, .a] ++ [] :=
  ⟨testBuild_sound, rfl⟩

/-! ### Invariants -/

/-- `booted` is a quiescent point with boot ended (R338); with an operation still to issue it is none, nor while A is in
boot or in the launch's hold. -/
theorem witness_Quiescent :
    Quiescent booted ∧ BootEnded booted ∧
    ¬ Quiescent { booted with a := { CtxState.reset with prog := [⟨0x86#8, .f32 0x41000000#32⟩] } } ∧
    ¬ BootEnded atReset ∧ ¬ BootEnded { booted with a := { CtxState.reset with wait := .launch } } := by
  refine ⟨⟨rfl, rfl, rfl, rfl, rfl, .inr rfl⟩, ⟨nofun, nofun⟩, ?_, fun h => h.1 _ rfl, fun h => h.2 rfl⟩
  rintro ⟨-, h, -⟩
  exact absurd h (by decide)

theorem nvmGet_nil (a : Nat) : nvmGet [] a = nvmDefault := rfl

theorem witness_StateInvariantAtReset : nvmWf [] = true ∧ ∀ a, tb.nvmSize ≤ a → nvmGet [] a = nvmDefault :=
  ⟨rfl, fun _ _ => rfl⟩

theorem booted_inv : booted.Inv := ⟨rfl, fun _ _ => rfl, booted_regInv, .inl rfl⟩

theorem witness_EveryStepKeepsStateInvariant : (∃ t, step (moving .b) = .next t) ∧ (moving .b).Inv :=
  ⟨⟨_, rfl⟩, booted_inv⟩

theorem witness_LogsOnlyGrow : (∃ t, step (moving .b) = .next t) ∧ (moving .b).nextMove ≠ .reset :=
  ⟨⟨_, rfl⟩, by decide⟩

/-- The first byte of VPP's record changes. -/
theorem witness_OnlySavesWriteNvm :
    see (.railSaveCal .vpp 0x41480000#32) { adjusting 0#32 1536#12 with issuer := .a }
      (fun t => t.nvmByte 0x08 != booted.nvmByte 0x08) = some true := by
  decide +kernel

/-- An operation that changes each register. -/
theorem witness_RegulatorRegisterWriters :
    see (.regAdjust .vdd) (adjusting 0x42480000#32 768#12) (fun t => (t.reg .vdd).measured != 0#32) = some true ∧
    see (.regConfigure .vdd { bootReg tb .vdd with freq := 60000#32 }) booted
      (fun t => (t.reg .vdd).cfg != (booted.reg .vdd).cfg) = some true ∧
    see (.initCal .vdd) booted (fun t => (t.reg .vdd).target != 0#32) = some true ∧
    see (.regSetCal .vdd 0x3F000000#32) booted (fun t => (t.reg .vdd).cal != 0#32) = some true := by
  decide +kernel

/-- Operations that change the duty, start and stop the regulator, and write each field of the pulse output. -/
theorem witness_DutyAndOutputWriters :
    see (.regAdjust .vdd) (adjusting 0x42480000#32 768#12)
      (fun t => ((t.reg .vdd).duty != 0x42480000#32, (t.pwm .vdd).duty != 0x41200000#32)) = some (true, true) ∧
    see (.regStart .vdd) { booted with regVdd := { bootedReg .vdd with running := false }, pwmVdd := .reset }
      (fun t => ((t.reg .vdd).running, (t.pwm .vdd).pin, (t.pwm .vdd).freq, (t.pwm .vdd).armed))
      = some (true, .num 10, 50000#32, true) ∧
    see .railsStop booted (fun t => ((t.reg .vpp).running, (t.pwm .vpp).armed)) = some (false, false) := by
  decide +kernel

end Sys2Proof.Tests
end

section
/-! Rounding and arithmetic (00_scope.md R15): `f32Round` rounds `n / d` to whole last places `2^k`; a value is a whole
number of these places or lies below the full significand, so the rounded count of places decides which value is nearest. -/

namespace Sys2Proof.Machine

/-! ### Rounding to the nearest value (R15) -/

/-- The rounded quotient misses the exact one by at most a half, and by a half only when it is even. -/
theorem roundHalfEven_error (n : Nat) {D : Nat} (hD : 0 < D) :
    2 * |(roundHalfEven n D * D : Int) - n| ≤ D ∧
      (2 * |(roundHalfEven n D * D : Int) - n| = D → roundHalfEven n D % 2 = 0) := by
  have hn : (n : Int) = (n / D : Nat) * D + (n % D : Nat) := by exact_mod_cast (Nat.div_add_mod' n D).symm
  have hr : n % D < D := Nat.mod_lt n hD
  have down : |((n / D : Nat) * D : Int) - n| = (n % D : Nat) := by
    rw [hn, sub_add_cancel_left, abs_neg, Nat.abs_cast]
  have up : |((n / D + 1 : Nat) * D : Int) - n| = (D - n % D : Nat) := by
    rw [hn, Nat.cast_sub hr.le, Nat.cast_add, Nat.cast_one, add_one_mul, add_sub_add_left_eq_sub, abs_of_nonneg]
    omega
  unfold roundHalfEven
  dsimp only
  split_ifs with below tie
  · rw [down]; omega
  · rcases Nat.mod_two_eq_zero_or_one (n / D) with even | odd
    · rw [even, add_zero, down]; omega
    · rw [odd, up]; omega
  · rw [up]; omega

/-- No whole number of steps `D` lies nearer to `n` than the rounded quotient; an equally near one leaves it even. -/
theorem roundHalfEven_nearest (n : Nat) {D : Nat} (hD : 0 < D) (j : Nat) :
    |(roundHalfEven n D * D : Int) - n| ≤ |(j * D : Int) - n| ∧
      (|(roundHalfEven n D * D : Int) - n| = |(j * D : Int) - n| → j ≠ roundHalfEven n D →
        roundHalfEven n D % 2 = 0) := by
  obtain ⟨hhalf, htie⟩ := roundHalfEven_error n hD
  generalize roundHalfEven n D = h at *
  by_cases hj : j = h
  · subst hj
    exact ⟨le_rfl, fun _ ne => absurd rfl ne⟩
  · have hstep : (D : Int) ≤ |(j * D : Int) - h * D| := by
      rw [← sub_mul, abs_mul, Nat.abs_cast]
      exact le_mul_of_one_le_left (by positivity) (Int.one_le_abs (by omega))
    have htri := abs_sub_le (j * D : Int) n (h * D)
    rw [abs_sub_comm (n : Int)] at htri
    exact ⟨by omega, fun heq _ => htie (by omega)⟩

/-- The rounded quotient stays below an even `j` exactly when the exact one is below `j - 1/2`. -/
theorem roundHalfEven_lt_iff (n : Nat) {D : Nat} (hD : 0 < D) {j : Nat} (hj : j % 2 = 0) (hpos : 0 < j) :
    roundHalfEven n D < j ↔ 2 * n < (2 * j - 1) * D := by
  obtain ⟨hhalf, htie⟩ := roundHalfEven_error n hD
  generalize roundHalfEven n D = h at *
  obtain ⟨i, rfl⟩ : ∃ i, j = i + 1 := ⟨j - 1, by omega⟩
  have hmul : (2 * (i + 1) - 1) * D = 2 * (i * D) + D := by
    rw [show 2 * (i + 1) - 1 = 2 * i + 1 by omega]; ring
  rw [hmul]
  rcases lt_trichotomy h i with hlt | rfl | hgt
  · have : h * D + D ≤ i * D := by rw [← Nat.succ_mul]; exact Nat.mul_le_mul_right D hlt
    zify at this ⊢
    have := neg_abs_le ((h * D : Int) - n)
    omega
  · have := neg_abs_le ((h * D : Int) - n)
    have hne : 2 * |(h * D : Int) - n| ≠ D := fun e => by have := htie e; omega
    zify
    omega
  · have : i * D + D ≤ h * D := by rw [← Nat.succ_mul]; exact Nat.mul_le_mul_right D hgt
    have := le_abs_self ((h * D : Int) - n)
    zify at *
    omega

/-- The exponent of the last place `f32Round` keeps of `n / d`. -/
def roundPlace (n d : Nat) : Nat := Nat.log2 (n / d) - 23

/-- `n / d` rounded to a whole number of last places. -/
def roundPlaces (n d : Nat) : Nat := roundHalfEven n (d <<< roundPlace n d)

theorem f32Round_eq (neg : Bool) (n d : Nat) :
    f32Round neg n d = f32OfMag neg (min (roundPlace n d * 2 ^ 23 + roundPlaces n d) f32InfMag) := rfl

/-- A last place above the least one is kept only of a quotient with more than 23 bits above it. -/
theorem roundPlace_eq_zero_or_le (n d : Nat) : roundPlace n d = 0 ∨ 2 ^ (roundPlace n d + 23) ≤ n / d := by
  by_cases h : Nat.log2 (n / d) ≤ 23
  · exact .inl (Nat.sub_eq_zero_of_le h)
  · right
    rw [roundPlace, Nat.sub_add_cancel (by omega)]
    exact Nat.log2_self_le (fun h0 => by simp [h0] at h)

theorem div_lt_of_roundPlace (n d : Nat) : n / d < 2 ^ (roundPlace n d + 24) :=
  Nat.lt_log2_self.trans_le (Nat.pow_le_pow_right (by decide) (by unfold roundPlace; omega))

theorem roundHalfEven_cases (n D : Nat) : roundHalfEven n D = n / D ∨ roundHalfEven n D = n / D + 1 := by
  unfold roundHalfEven
  dsimp only
  split_ifs <;> omega

theorem div_shiftLeft_roundPlace_lt (n d : Nat) : n / (d <<< roundPlace n d) < 2 ^ 24 := by
  rw [Nat.shiftLeft_eq, ← Nat.div_div_eq_div_mul, Nat.div_lt_iff_lt_mul (by positivity), ← pow_add, add_comm]
  exact div_lt_of_roundPlace n d

theorem roundPlaces_le (n d : Nat) : roundPlaces n d ≤ 2 ^ 24 := by
  have h := div_shiftLeft_roundPlace_lt n d
  unfold roundPlaces
  rcases roundHalfEven_cases n (d <<< roundPlace n d) with e | e <;> omega

/-- Above the least place the significand has all its 24 bits. -/
theorem roundPlace_eq_zero_or_places_ge (n d : Nat) : roundPlace n d = 0 ∨ 2 ^ 23 ≤ roundPlaces n d := by
  refine (roundPlace_eq_zero_or_le n d).imp_right fun h => ?_
  have hq : 2 ^ 23 ≤ n / (d <<< roundPlace n d) := by
    rw [Nat.shiftLeft_eq, ← Nat.div_div_eq_div_mul, Nat.le_div_iff_mul_le (by positivity), ← pow_add, add_comm]
    exact h
  unfold roundPlaces
  rcases roundHalfEven_cases n (d <<< roundPlace n d) with e | e <;> omega

/-- The magnitude of a packed significand of `h` last places, the carry into the next exponent included. -/
theorem f32Mag_ofMag_places (neg : Bool) {k h : Nat} (hlt : k * 2 ^ 23 + h < 2 ^ 31) (hle : h ≤ 2 ^ 24)
    (hlo : k = 0 ∨ 2 ^ 23 ≤ h) : f32Mag (f32OfMag neg (k * 2 ^ 23 + h)) = h * 2 ^ k := by
  unfold f32Mag
  rw [f32Exp_ofMag _ _ hlt, f32Frac_ofMag _ _ hlt, Nat.shiftLeft_eq]
  rcases Nat.lt_or_ge h (2 ^ 23) with hsub | hnorm
  · obtain rfl : k = 0 := by omega
    rw [if_pos (by omega)]
    omega
  · rw [if_neg (by omega)]
    rcases hle.lt_or_eq with hfull | rfl
    · rw [show (k * 2 ^ 23 + h) % 2 ^ 23 + 2 ^ 23 = h by omega, show (k * 2 ^ 23 + h) / 2 ^ 23 - 1 = k by omega]
    · rw [show (k * 2 ^ 23 + 2 ^ 24) % 2 ^ 23 + 2 ^ 23 = 2 ^ 23 by omega,
        show (k * 2 ^ 23 + 2 ^ 24) / 2 ^ 23 - 1 = k + 1 by omega]
      ring

/-- A magnitude is a whole number of places `2^k`, or too small for `k` to be the last place of a full significand. -/
theorem f32Mag_places_or_lt (y : F32) (k : Nat) :
    (∃ j, f32Mag y = j * 2 ^ k) ∨ (k ≠ 0 ∧ f32Mag y < 2 ^ (k + 23)) := by
  have hf := f32Frac_lt y
  by_cases hk : k = 0
  · exact .inl ⟨f32Mag y, by simp [hk]⟩
  · unfold f32Mag
    split_ifs with he
    · exact .inr ⟨hk, hf.trans_le (Nat.pow_le_pow_right (by decide) (by omega))⟩
    · rw [Nat.shiftLeft_eq]
      rcases Nat.lt_or_ge k (f32Exp y) with hlarge | hsmall
      · refine .inl ⟨(f32Frac y + 2 ^ 23) * 2 ^ (f32Exp y - 1 - k), ?_⟩
        rw [mul_assoc, ← pow_add, Nat.sub_add_cancel (by omega)]
      · refine .inr ⟨hk, ?_⟩
        calc (f32Frac y + 2 ^ 23) * 2 ^ (f32Exp y - 1) < 2 ^ 24 * 2 ^ (f32Exp y - 1) :=
              Nat.mul_lt_mul_of_pos_right (by omega) (by positivity)
          _ ≤ 2 ^ (k + 23) := by
              rw [← pow_add]; exact Nat.pow_le_pow_right (by decide) (by omega)

/-- A rounded result is finite exactly below the magnitude bits of an infinity. -/
theorem f32Finite_round_iff_places (neg : Bool) (n d : Nat) :
    f32Finite (f32Round neg n d) = true ↔ roundPlace n d * 2 ^ 23 + roundPlaces n d < f32InfMag := by
  rw [f32Round_eq]
  constructor
  · intro hfin
    by_contra hge
    rw [min_eq_right (not_lt.mp hge), f32Finite, f32Exp_ofMag _ _ (by decide)] at hfin
    exact absurd hfin (by decide)
  · intro hlt
    rw [min_eq_left hlt.le]
    exact f32Finite_ofMag _ _ hlt

/-- A rounded result is finite exactly below half past the largest finite value. -/
theorem f32Finite_round_iff (neg : Bool) (n : Nat) {d : Nat} (hd : 0 < d) :
    f32Finite (f32Round neg n d) = true ↔ 2 * n < (2 ^ 25 - 1) * 2 ^ 253 * d := by
  have hle := roundPlaces_le n d
  have hge := roundPlace_eq_zero_or_places_ge n d
  rw [f32Finite_round_iff_places, f32InfMag]
  rcases lt_trichotomy (roundPlace n d) 253 with hlow | hlast | hhigh
  · have hn : n < 2 ^ 23 * 2 ^ 253 * d := by
      have hplace : roundPlace n d + 24 ≤ 23 + 253 := by omega
      rw [← Nat.div_lt_iff_lt_mul hd, ← pow_add]
      exact (div_lt_of_roundPlace n d).trans_le (pow_le_pow_right₀ one_le_two hplace)
    exact iff_of_true (by omega) (by omega)
  · have hlt : roundPlaces n d < 2 ^ 24 ↔ 2 * n < (2 * 2 ^ 24 - 1) * (d <<< roundPlace n d) :=
      roundHalfEven_lt_iff n (by rw [Nat.shiftLeft_eq]; positivity) (by decide) (by decide)
    rw [hlast, Nat.shiftLeft_eq] at hlt
    rw [hlast]
    omega
  · have hn : 2 ^ 24 * 2 ^ 253 * d ≤ n := by
      have hplace : 24 + 253 ≤ roundPlace n d + 23 := by omega
      rw [← Nat.le_div_iff_mul_le hd, ← pow_add]
      exact (pow_le_pow_right₀ one_le_two hplace).trans ((roundPlace_eq_zero_or_le n d).resolve_left (by omega))
    exact iff_of_false (by omega) (by omega)

/-- The magnitude and the last bit of a finite rounded result. -/
theorem f32Mag_round {neg : Bool} {n d : Nat} (h : f32Finite (f32Round neg n d) = true) :
    f32Mag (f32Round neg n d) = roundPlaces n d * 2 ^ roundPlace n d ∧
      f32Frac (f32Round neg n d) % 2 = roundPlaces n d % 2 := by
  have hlt := (f32Finite_round_iff_places neg n d).mp h
  have hlt' : roundPlace n d * 2 ^ 23 + roundPlaces n d < 2 ^ 31 := hlt.trans (by decide)
  rw [f32Round_eq, min_eq_left hlt.le]
  refine ⟨f32Mag_ofMag_places neg hlt' (roundPlaces_le n d) (roundPlace_eq_zero_or_places_ge n d), ?_⟩
  rw [f32Frac_ofMag _ _ hlt']
  omega

/-- No value lies nearer to `n / d` than a finite rounded result, and an equally near one leaves its last bit even. -/
theorem f32Round_nearest {neg : Bool} {n d : Nat} (hd : 0 < d) (h : f32Finite (f32Round neg n d) = true) (y : F32) :
    |(f32Mag (f32Round neg n d) * d : Int) - n| ≤ |(f32Mag y * d : Int) - n| ∧
      (|(f32Mag (f32Round neg n d) * d : Int) - n| = |(f32Mag y * d : Int) - n| →
        f32Mag y ≠ f32Mag (f32Round neg n d) → f32Frac (f32Round neg n d) % 2 = 0) := by
  obtain ⟨hmag, hbit⟩ := f32Mag_round h
  have hD : 0 < d <<< roundPlace n d := by rw [Nat.shiftLeft_eq]; positivity
  have scaled (j : Nat) : ((j * 2 ^ roundPlace n d : Nat) * d : Int) = j * (d <<< roundPlace n d : Nat) := by
    rw [Nat.shiftLeft_eq]; push_cast; ring
  have near := roundHalfEven_nearest n hD
  rw [hmag, hbit, scaled]
  rcases f32Mag_places_or_lt y (roundPlace n d) with ⟨j, hj⟩ | ⟨hk, hsmall⟩
  · rw [hj, scaled]
    exact ⟨(near j).1, fun heq hne => (near j).2 heq fun e => hne (by rw [e, roundPlaces])⟩
  · have hn : 2 ^ (roundPlace n d + 23) * d ≤ n := by
      rw [← Nat.le_div_iff_mul_le hd]
      exact (roundPlace_eq_zero_or_le n d).resolve_left hk
    have hlt : f32Mag y * d < 2 ^ (roundPlace n d + 23) * d := Nat.mul_lt_mul_of_pos_right hsmall hd
    have strict : |((2 ^ 23 : Nat) * (d <<< roundPlace n d : Nat) : Int) - n| < |(f32Mag y * d : Int) - n| := by
      rw [← scaled, ← pow_add, add_comm 23]
      zify at hn hlt
      push_cast
      rw [abs_of_nonpos (by omega), abs_of_nonpos (by omega)]
      omega
    have nearer := (near (2 ^ 23)).1.trans_lt strict
    exact ⟨nearer.le, fun heq => absurd heq nearer.ne⟩

/-- Settles O8: the rounded significand is the nearest whole number of last places, and every finite value is such a
whole number or lies below the full significand. -/
theorem roundingIsNearestTiesToEven : Obligations.RoundingIsNearestTiesToEven := by
  intro neg n d hd
  exact ⟨f32Finite_round_iff neg n hd, fun hfin y _ => f32Round_nearest hd hfin y⟩

/-! ### Sums, differences, products and quotients (R15) -/

/-- A magnitude with a sign. -/
def withSign (neg : Bool) (m : Int) : Int := if neg then -m else m

theorem f32Val_eq_withSign (x : F32) : f32Val x = withSign (f32Sign x) (f32Mag x) := rfl

theorem withSign_mul (p q : Bool) (a b : Int) : withSign p a * withSign q b = withSign (p != q) (a * b) := by
  cases p <;> cases q <;> simp [withSign]

theorem withSign_mul_right (p : Bool) (a b : Int) : withSign p a * b = withSign p (a * b) := by
  cases p <;> simp [withSign]

theorem withSign_mul_left (p : Bool) (a b : Int) : a * withSign p b = withSign p (a * b) := by
  cases p <;> simp [withSign]

theorem withSign_withSign_bne (p q : Bool) (a : Int) : withSign q (withSign (p != q) a) = withSign p a := by
  cases p <;> cases q <;> simp [withSign]

theorem withSign_sub (p : Bool) (a b : Int) : withSign p a - withSign p b = withSign p (a - b) := by
  cases p <;> simp [withSign]; ring

@[simp] theorem abs_withSign (p : Bool) (a : Int) : |withSign p a| = |a| := by
  cases p <;> simp [withSign]

theorem withSign_abs (v : Int) : withSign (decide (v < 0)) |v| = v := by
  rcases lt_or_ge v 0 with neg | nonneg
  · simp [withSign, neg, abs_of_neg neg]
  · simp [withSign, nonneg.not_gt, abs_of_nonneg nonneg]

@[simp] theorem f32Sign_round (neg : Bool) (n d : Nat) : f32Sign (f32Round neg n d) = neg :=
  f32Sign_ofMag _ _ ((min_le_right _ _).trans_lt (by decide))

/-- No value lies nearer to `±n / d` than a finite result rounded with that sign. -/
theorem f32Val_round_nearest {neg : Bool} {n d : Nat} (hd : 0 < d) (h : f32Finite (f32Round neg n d) = true) (z : F32) :
    |f32Val (f32Round neg n d) * d - withSign neg n| ≤ |f32Val z * d - withSign neg n| := by
  calc |f32Val (f32Round neg n d) * d - withSign neg n|
      = |(f32Mag (f32Round neg n d) * d : Int) - n| := by
        rw [f32Val_eq_withSign, f32Sign_round, withSign_mul_right, withSign_sub, abs_withSign]
    _ ≤ |(f32Mag z * d : Int) - n| := (f32Round_nearest hd h z).1
    _ = |(|f32Val z * d| - |withSign neg n|)| := by simp [f32Val_eq_withSign, abs_mul]
    _ ≤ |f32Val z * d - withSign neg n| := abs_abs_sub_abs_le_abs_sub _ _

/-- `f32Add` of finite operands: the zero of the operands' common sign, or the exact sum rounded. -/
theorem f32Add_of_finite {x y : F32} (hx : f32Finite x = true) (hy : f32Finite y = true) :
    f32Add x y = if f32Val x + f32Val y = 0 then f32Zero (f32Sign x && f32Sign y)
      else f32Round (decide (f32Val x + f32Val y < 0)) (f32Val x + f32Val y).natAbs 1 := by
  simp [f32Add, f32Finite_not_nan hx, f32Finite_not_nan hy, f32Finite_not_inf hx, f32Finite_not_inf hy]

theorem f32Sub_of_finite {x y : F32} (hx : f32Finite x = true) (hy : f32Finite y = true) :
    f32Sub x y = f32Add x (f32Neg y) := by
  simp [f32Sub, f32Finite_not_nan hx, f32Finite_not_nan hy]

theorem f32Mul_of_finite {x y : F32} (hx : f32Finite x = true) (hy : f32Finite y = true) :
    f32Mul x y = f32Round (f32Sign x != f32Sign y) (f32Mag x * f32Mag y) (2 ^ 149) := by
  simp [f32Mul, f32Finite_not_nan hx, f32Finite_not_nan hy, f32Finite_not_inf hx, f32Finite_not_inf hy]

theorem f32Div_of_finite {x y : F32} (hx : f32Finite x = true) (hy : f32Finite y = true) (h0 : f32Mag y ≠ 0) :
    f32Div x y = f32Round (f32Sign x != f32Sign y) (f32Mag x * 2 ^ 149) (f32Mag y) := by
  simp [f32Div, f32Finite_not_nan hx, f32Finite_not_nan hy, f32Finite_not_inf hx, f32Finite_not_inf hy, h0]

@[simp] theorem f32Val_zero (neg : Bool) : f32Val (f32Zero neg) = 0 := by cases neg <;> decide

theorem f32Add_nearest {x y : F32} (hx : f32Finite x = true) (hy : f32Finite y = true)
    (h : f32Finite (f32Add x y) = true) (z : F32) :
    |f32Val (f32Add x y) - (f32Val x + f32Val y)| ≤ |f32Val z - (f32Val x + f32Val y)| := by
  rw [f32Add_of_finite hx hy] at h ⊢
  split_ifs at h ⊢ with h0
  · simp [h0]
  · simpa [withSign_abs] using f32Val_round_nearest one_pos h z

theorem f32Sub_nearest {x y : F32} (hx : f32Finite x = true) (hy : f32Finite y = true)
    (h : f32Finite (f32Sub x y) = true) (z : F32) :
    |f32Val (f32Sub x y) - (f32Val x - f32Val y)| ≤ |f32Val z - (f32Val x - f32Val y)| := by
  rw [f32Sub_of_finite hx hy] at h ⊢
  simpa [sub_eq_add_neg] using f32Add_nearest hx (by simpa using hy) h z

theorem f32Mul_nearest {x y : F32} (hx : f32Finite x = true) (hy : f32Finite y = true)
    (h : f32Finite (f32Mul x y) = true) (z : F32) :
    |f32Val (f32Mul x y) * 2 ^ 149 - f32Val x * f32Val y| ≤ |f32Val z * 2 ^ 149 - f32Val x * f32Val y| := by
  rw [f32Mul_of_finite hx hy] at h ⊢
  rw [f32Val_eq_withSign x, f32Val_eq_withSign y, withSign_mul]
  exact_mod_cast f32Val_round_nearest (by positivity) h z

/-- The exact quotient's distance, both sides scaled by the divisor's magnitude and turned to its sign. -/
theorem abs_val_mul_sub (z x y : F32) :
    |f32Val z * f32Val y - f32Val x * 2 ^ 149|
      = |f32Val z * f32Mag y - withSign (f32Sign x != f32Sign y) (f32Mag x * 2 ^ 149)| := by
  rw [← abs_withSign (f32Sign y) (f32Val z * f32Mag y - _), ← withSign_sub, withSign_withSign_bne,
    ← withSign_mul_left, ← withSign_mul_right, ← f32Val_eq_withSign, ← f32Val_eq_withSign]

theorem f32Div_nearest {x y : F32} (hx : f32Finite x = true) (hy : f32Finite y = true) (h0 : f32Val y ≠ 0)
    (h : f32Finite (f32Div x y) = true) (z : F32) :
    |f32Val (f32Div x y) * f32Val y - f32Val x * 2 ^ 149| ≤ |f32Val z * f32Val y - f32Val x * 2 ^ 149| := by
  have hm : f32Mag y ≠ 0 := fun e => h0 (by simp [f32Val_eq_withSign, withSign, e])
  rw [f32Div_of_finite hx hy hm] at h ⊢
  rw [abs_val_mul_sub, abs_val_mul_sub]
  exact_mod_cast f32Val_round_nearest (Nat.pos_of_ne_zero hm) h z

/-- Settles O9: each operation rounds the exact result once, and a rounded result is nearest with its sign. -/
theorem arithmeticIsNearest : Obligations.ArithmeticIsNearest := by
  intro x y z hx hy _
  exact ⟨fun h => f32Add_nearest hx hy h z, fun h => f32Sub_nearest hx hy h z, fun h => f32Mul_nearest hx hy h z,
    fun h0 h => f32Div_nearest hx hy h0 h z⟩

end Sys2Proof.Machine
end

section
/-! The build, the responses and the refusals over one step (10_state.md R39, R40): an operation's pseudocode touches none of
them, and how its outcome reaches the issuer adds at most one response and one refusal. -/

namespace Sys2Proof.Machine

/-! ### What an operation does to the build, the responses and the refusals (R10, R39, R40) -/

/-- `t` has the build and both logs of `s`. -/
def KeepsLogs (s t : State) : Prop := t.build = s.build ∧ t.out = s.out ∧ t.refusals = s.refusals

/-- The second list is the first with at most one more entry at its end. -/
def AtMostOneMore {α : Type} (l l' : List α) : Prop := l' = l ∨ ∃ x, l' = l ++ [x]

/-- `t` has the build of `s` and at most one more response and one more refusal. -/
def LogsGrow (s t : State) : Prop :=
  t.build = s.build ∧ AtMostOneMore s.out t.out ∧ AtMostOneMore s.refusals t.refusals

/-- The state as far as the operation's pseudocode wrote it. -/
def OpOut.state : OpOut → State
  | .ret s _ => s
  | .refuse s _ => s

@[simp] theorem OpOut.state_ret (s : State) (res : Result) : (OpOut.ret s res).state = s := rfl
@[simp] theorem OpOut.state_refuse (s : State) (why : RefuseReason) : (OpOut.refuse s why).state = s := rfl
@[simp] theorem OpOut.state_fail (s : State) : (OpOut.fail s).state = s := rfl

theorem KeepsLogs.refl (s : State) : KeepsLogs s s := ⟨rfl, rfl, rfl⟩

theorem KeepsLogs.trans {s t u : State} (h1 : KeepsLogs s t) (h2 : KeepsLogs t u) : KeepsLogs s u := by
  obtain ⟨b1, o1, f1⟩ := h1
  obtain ⟨b2, o2, f2⟩ := h2
  exact ⟨b2.trans b1, o2.trans o1, f2.trans f1⟩

theorem KeepsLogs.grow {s t u : State} (h1 : KeepsLogs s t) (h2 : LogsGrow t u) : LogsGrow s u := by
  obtain ⟨b, o, f⟩ := h1
  rwa [LogsGrow, b, o, f] at h2

theorem KeepsLogs.logsGrow {s t : State} (h : KeepsLogs s t) : LogsGrow s t := ⟨h.1, .inl h.2.1, .inl h.2.2⟩

theorem KeepsLogs.emit {s t : State} (h : KeepsLogs s t) (x : Text) : LogsGrow s (t.emit x) :=
  h.grow ⟨rfl, .inr ⟨x, rfl⟩, .inl rfl⟩

theorem KeepsLogs.refuse {s t : State} (h : KeepsLogs s t) (why : RefuseReason) : LogsGrow s (t.refuse why) :=
  h.grow ⟨rfl, .inl rfl, .inr ⟨why, rfl⟩⟩

theorem keepsLogs_setReg (s : State) (r : Rail) (g : RegState) : KeepsLogs s (s.setReg r g) := by
  simp [KeepsLogs]
theorem keepsLogs_setResult (s : State) (c : Ctx) (x : Result) : KeepsLogs s (s.setResult c x) := by
  simp [KeepsLogs]
theorem keepsLogs_popIssue (s : State) (c : Ctx) : KeepsLogs s (s.popIssue c) := by
  simp [KeepsLogs]

/-- What the issuer gets of an operation that touched no log adds at most the refusal (R40). -/
theorem logsGrow_commit {s : State} {o : OpOut} (h : KeepsLogs s o.state) (c : Ctx) : LogsGrow s (o.commit c) := by
  cases o with
  | ret t res => exact h.grow (keepsLogs_setResult t c res).logsGrow
  | refuse t why => exact h.refuse why

/-- A handler whose operation touched no log adds one response or one refusal (R255; log 20). -/
theorem logsGrow_respond {s : State} {o : OpOut} (h : KeepsLogs s o.state) : LogsGrow s o.respond := by
  cases o with
  | ret t res =>
    cases res with
    | bool b =>
      cases b
      · exact h.emit nokText
      · exact h.emit okText
    | _ => exact h.emit okText
  | refuse t why => exact h.refuse why

theorem keepsLogs_bind {s : State} {o : OpOut} {k : State → Result → OpOut} (h : KeepsLogs s o.state)
    (hk : ∀ t res, KeepsLogs t (k t res).state) : KeepsLogs s (o.bind k).state := by
  cases o with
  | ret t res => exact h.trans (hk t res)
  | refuse t why => exact h

theorem keepsLogs_withUncal {r : Rail} {s : State} {k : F32 → State → OpOut} (hk : ∀ v t, KeepsLogs t (k v t).state) :
    KeepsLogs s (withUncal r s k).state := by
  by_cases h : (s.reg r).cfg.channel = .unassigned
  · rw [withUncal_unassigned h]
    exact .refl _
  · rw [withUncal_assigned h]
    exact KeepsLogs.trans (by simp [KeepsLogs]) (hk _ _)

/-! ### The operations on shared state touch no log -/

theorem opRegConfigure_keepsLogs (r : Rail) (cfg : RegulatorConfig) (s : State) :
    KeepsLogs s (opRegConfigure r cfg s).state := by
  unfold opRegConfigure
  dsimp only
  split_ifs <;> simp [KeepsLogs]

theorem opRegStart_keepsLogs (r : Rail) (s : State) : KeepsLogs s (opRegStart r s).state := by
  unfold opRegStart
  dsimp only
  split_ifs <;> simp [KeepsLogs]

theorem opRegStop_keepsLogs (r : Rail) (s : State) : KeepsLogs s (opRegStop r s).state := by
  unfold opRegStop
  split_ifs <;> simp [KeepsLogs]

theorem opRegSetTarget_keepsLogs (r : Rail) (v : F32) (s : State) : KeepsLogs s (opRegSetTarget r v s).state := by
  unfold opRegSetTarget
  dsimp only
  split_ifs <;> simp [KeepsLogs]

theorem opRegSetCal_keepsLogs (r : Rail) (v : F32) (s : State) : KeepsLogs s (opRegSetCal r v s).state :=
  keepsLogs_setReg _ _ _

theorem applyAdjust_keepsLogs (r : Rail) (v : F32) (s : State) : KeepsLogs s (s.applyAdjust r v) := by
  unfold State.applyAdjust
  dsimp only
  split_ifs <;> simp [KeepsLogs]

theorem opRegAdjust_keepsLogs (r : Rail) (s : State) : KeepsLogs s (opRegAdjust r s).state := by
  unfold opRegAdjust
  dsimp only
  split_ifs
  · exact keepsLogs_setReg _ _ _
  · exact keepsLogs_withUncal fun _ _ => applyAdjust_keepsLogs _ _ _

theorem opBothRails_keepsLogs {op : Rail → State → OpOut} (h : ∀ r s, KeepsLogs s (op r s).state) (s : State) :
    KeepsLogs s (opBothRails op s).state :=
  keepsLogs_bind (h _ _) fun _ _ => keepsLogs_bind (h _ _) fun _ _ => .refl _

theorem opRailConfigure_keepsLogs (r : Rail) (rc : RailConfig) (s : State) :
    KeepsLogs s (opRailConfigure r rc s).state :=
  keepsLogs_bind (opRegConfigure_keepsLogs _ _ _) fun _ _ => by simp [KeepsLogs]

theorem opRailOn_keepsLogs (r : Rail) (s : State) : KeepsLogs s (opRailOn r s).state := by
  unfold opRailOn
  split_ifs <;> simp [KeepsLogs]

theorem opRailOff_keepsLogs (r : Rail) (s : State) : KeepsLogs s (opRailOff r s).state := by
  unfold opRailOff
  split_ifs <;> simp [KeepsLogs]

theorem opRailToggle_keepsLogs (r : Rail) (s : State) : KeepsLogs s (opRailToggle r s).state := by
  unfold opRailToggle
  split_ifs <;> simp [KeepsLogs]

theorem opRailInitCal_keepsLogs (r : Rail) (ref : F32) (s : State) : KeepsLogs s (opRailInitCal r ref s).state := by
  unfold opRailInitCal
  split_ifs
  · exact .refl _
  · exact keepsLogs_bind (opRegSetCal_keepsLogs _ _ _) fun _ _ => opRegSetTarget_keepsLogs _ _ _

theorem opRailSaveCal_keepsLogs (r : Rail) (m : F32) (s : State) : KeepsLogs s (opRailSaveCal r m s).state := by
  unfold opRailSaveCal
  split_ifs
  · exact .refl _
  · refine keepsLogs_withUncal fun _ _ => keepsLogs_bind (opRegSetCal_keepsLogs _ _ _) fun _ _ => ?_
    split_ifs <;> simp [KeepsLogs]

theorem opRailLoadCal_keepsLogs (r : Rail) (s : State) : KeepsLogs s (opRailLoadCal r s).state := by
  unfold opRailLoadCal
  split_ifs
  · exact .refl _
  · exact keepsLogs_bind (opRegSetCal_keepsLogs _ _ _) fun _ _ => .refl _

theorem opSetRoute_keepsLogs (k : RouteBit) (b : Bool) (s : State) : KeepsLogs s (opSetRoute k b s).state := by
  unfold opSetRoute
  split_ifs <;> simp [KeepsLogs]

theorem opSetOnVpp_keepsLogs (b : Bool) (s : State) : KeepsLogs s (opSetOnVpp b s).state := by
  unfold opSetOnVpp
  split_ifs <;> simp [KeepsLogs]

/-! ### One operation -/

theorem runShared_logsGrow {ctxs : Allowed} {body : State → OpOut} {s t : State} (h : KeepsLogs s (body s).state)
    (hrun : runShared ctxs body s = .next t) : LogsGrow s t := by
  rcases runShared_cases ctxs body s with ⟨-, e⟩ | ⟨-, -, e⟩ | ⟨-, -, e⟩ <;> cases e.symm.trans hrun
  · exact (KeepsLogs.refl _).refuse _
  · exact (KeepsLogs.refl _).logsGrow
  · exact logsGrow_commit h _

theorem runHandler_logsGrow {body : State → State} {s t : State} (h : LogsGrow s (body s))
    (hrun : runHandler body s = .next t) : LogsGrow s t := by
  rcases runHandler_cases body s with ⟨-, e⟩ | ⟨-, e⟩ <;> cases e.symm.trans hrun
  · exact (KeepsLogs.refl _).logsGrow
  · exact h

theorem runFree_logsGrow {ctxs : Allowed} {body : State → Ctx → State} {s t : State}
    (h : LogsGrow s (body s s.issuer)) (hrun : runFree ctxs body s = .next t) : LogsGrow s t := by
  rcases runFree_cases ctxs body s with ⟨-, e⟩ | ⟨-, e⟩ <;> cases e.symm.trans hrun
  · exact (KeepsLogs.refl _).refuse _
  · exact h

theorem opSeqLaunch_keepsLogs (s : State) (c : Ctx) : KeepsLogs s (opSeqLaunch s c) := by
  unfold opSeqLaunch
  split_ifs <;> simp [KeepsLogs]

theorem opSeqStop_keepsLogs (s : State) (c : Ctx) : KeepsLogs s (opSeqStop s c) := by
  unfold opSeqStop
  split_ifs <;> simp [KeepsLogs]

theorem opSeqLock_keepsLogs (s : State) (c : Ctx) : KeepsLogs s (opSeqLock s c) := by
  unfold opSeqLock
  split
  · simp [KeepsLogs]
  · split_ifs <;> simp [KeepsLogs]

/-- The unlock is the one operation of the sequencer that may mark the run itself (R217). -/
theorem opSeqUnlock_logsGrow (s : State) (c : Ctx) : LogsGrow s (opSeqUnlock s c) := by
  unfold opSeqUnlock
  split_ifs
  · exact KeepsLogs.logsGrow (by simp [KeepsLogs])
  · exact (KeepsLogs.refl _).refuse _

theorem opSeqPutParam_keepsLogs (w : U32) (s : State) (c : Ctx) : KeepsLogs s (opSeqPutParam w s c) := by
  unfold opSeqPutParam
  split_ifs
  · exact keepsLogs_setResult _ _ _
  · split <;> simp [KeepsLogs]

theorem opSeqGetParam_keepsLogs (s : State) (c : Ctx) : KeepsLogs s (opSeqGetParam s c) := by
  unfold opSeqGetParam
  split_ifs
  · exact keepsLogs_setResult _ _ _
  · split <;> simp [KeepsLogs]

/-- Every operation keeps the build and adds at most one response and one refusal. -/
theorem exec_logsGrow {i : Instr} {s t : State} (h : exec i s = .next t) : LogsGrow s t := by
  unfold exec at h
  cases i with
  | nop | getV | getDuty | getCal => exact runHandler_logsGrow ((KeepsLogs.refl _).emit _) h
  | enable r p1 =>
    refine runHandler_logsGrow (logsGrow_respond ?_) h
    split_ifs
    · exact opRailOn_keepsLogs r s
    · exact opRailOff_keepsLogs r s
  | setV => exact runHandler_logsGrow (logsGrow_respond (opRegSetTarget_keepsLogs _ _ _)) h
  | initCal => exact runHandler_logsGrow (logsGrow_respond (opRailInitCal_keepsLogs _ _ _)) h
  | saveCal => exact runHandler_logsGrow (logsGrow_respond (opRailSaveCal_keepsLogs _ _ _)) h
  | setA9 | setA18 | setCe | setOe | setWe =>
    exact runHandler_logsGrow (logsGrow_respond (opSetRoute_keepsLogs _ _ _)) h
  | setVddOnVpp => exact runHandler_logsGrow (logsGrow_respond (opSetOnVpp_keepsLogs _ _)) h
  | regConfigure => exact runShared_logsGrow (opRegConfigure_keepsLogs _ _ _) h
  | regStart => exact runShared_logsGrow (opRegStart_keepsLogs _ _) h
  | regStop => exact runShared_logsGrow (opRegStop_keepsLogs _ _) h
  | regSetTarget => exact runShared_logsGrow (opRegSetTarget_keepsLogs _ _ _) h
  | regAdjust => exact runShared_logsGrow (opRegAdjust_keepsLogs _ _) h
  | regSetCal => exact runShared_logsGrow (opRegSetCal_keepsLogs _ _ _) h
  | regGetCal | regGetTarget | regGetV | regGetDuty | regIsRunning | railIsOn | railsIsRunning =>
    exact runShared_logsGrow (.refl _) h
  | railConfigure => exact runShared_logsGrow (opRailConfigure_keepsLogs _ _ _) h
  | railOn => exact runShared_logsGrow (opRailOn_keepsLogs _ _) h
  | railOff => exact runShared_logsGrow (opRailOff_keepsLogs _ _) h
  | railToggle => exact runShared_logsGrow (opRailToggle_keepsLogs _ _) h
  | railInitCal => exact runShared_logsGrow (opRailInitCal_keepsLogs _ _ _) h
  | railSaveCal => exact runShared_logsGrow (opRailSaveCal_keepsLogs _ _ _) h
  | railLoadCal => exact runShared_logsGrow (opRailLoadCal_keepsLogs _ _) h
  | vppSetA9 | vppSetA18 | vppSetCe | vppSetOe | vppSetWe => exact runShared_logsGrow (opSetRoute_keepsLogs _ _ _) h
  | vddSetOnVpp => exact runShared_logsGrow (opSetOnVpp_keepsLogs _ _) h
  | railsStart => exact runShared_logsGrow (opBothRails_keepsLogs opRegStart_keepsLogs _) h
  | railsStop => exact runShared_logsGrow (opBothRails_keepsLogs opRegStop_keepsLogs _) h
  | seqLaunch => exact runFree_logsGrow (opSeqLaunch_keepsLogs _ _).logsGrow h
  | seqStop => exact runFree_logsGrow (opSeqStop_keepsLogs _ _).logsGrow h
  | seqIsStopRequested | seqGetStatus => exact runFree_logsGrow (keepsLogs_setResult _ _ _).logsGrow h
  | seqLock => exact runFree_logsGrow (opSeqLock_keepsLogs _ _).logsGrow h
  | seqUnlock => exact runFree_logsGrow (opSeqUnlock_logsGrow _ _) h
  | seqPutParam => exact runFree_logsGrow (opSeqPutParam_keepsLogs _ _ _).logsGrow h
  | seqGetParam => exact runFree_logsGrow (opSeqGetParam_keepsLogs _ _).logsGrow h

/-! ### One step -/

theorem runAs_logsGrow {s u t : State} {c : Ctx} {i : Instr} (hu : KeepsLogs s u) (h : runAs c i u = .next t) :
    LogsGrow s t := by
  have hexec : LogsGrow { u with issuer := c } t := exec_logsGrow h
  exact hu.grow hexec

theorem completeWait_keepsLogs {s t : State} {c : Ctx} (h : completeWait s c = some t) : KeepsLogs s t := by
  unfold completeWait at h
  split at h
  · cases h
  all_goals
    split at h <;> cases h
    simp [KeepsLogs]

theorem issueMove_logsGrow {s t : State} {c : Ctx} (h : issueMove c s = some (.next t)) : LogsGrow s t := by
  unfold issueMove at h
  split at h
  · cases h
  · split at h
    · split_ifs at h
      exact runAs_logsGrow (keepsLogs_popIssue s c) (Option.some.inj h)
    · cases h
      exact (keepsLogs_popIssue s c).refuse _
    · cases h

theorem bootMove_logsGrow {s t : State} {k : BootStep} (h : bootMove k s = some (.next t)) : LogsGrow s t := by
  unfold bootMove at h
  dsimp only at h
  split_ifs at h
  refine runAs_logsGrow ?_ (Option.some.inj h)
  exact ⟨rfl, rfl, rfl⟩

theorem takeOpcode_logsGrow (c1 c2 : Byte) (s : State) : LogsGrow s (takeOpcode c1 c2 s) := by
  unfold takeOpcode
  split
  · exact KeepsLogs.logsGrow ⟨rfl, rfl, rfl⟩
  · split
    · exact KeepsLogs.emit ⟨rfl, rfl, rfl⟩ _
    · exact KeepsLogs.logsGrow ⟨rfl, rfl, rfl⟩

theorem takeParam_logsGrow (op : Byte) (cs : Text) (s : State) : LogsGrow s (takeParam op cs s) := by
  unfold takeParam
  extract_lets want
  split_ifs
  · exact KeepsLogs.logsGrow ⟨rfl, rfl, rfl⟩
  · split
    · exact KeepsLogs.emit ⟨rfl, rfl, rfl⟩ _
    · exact KeepsLogs.logsGrow ⟨rfl, rfl, rfl⟩

theorem readEvent_logsGrow (e : HostEvent) (s : State) : LogsGrow s (readEvent e s) := by
  cases e with
  | timeout => exact KeepsLogs.logsGrow ⟨rfl, rfl, rfl⟩
  | char c =>
    unfold readEvent
    dsimp only
    split
    · exact KeepsLogs.logsGrow ⟨rfl, rfl, rfl⟩
    · exact takeOpcode_logsGrow _ _ _
    · exact takeParam_logsGrow _ _ _
    all_goals exact (KeepsLogs.refl _).logsGrow

theorem readMove_logsGrow {s t : State} (h : readMove s = some (.next t)) : LogsGrow s t := by
  unfold readMove at h
  split at h <;> cases h
  exact KeepsLogs.grow ⟨rfl, rfl, rfl⟩ (readEvent_logsGrow _ _)

theorem handlerMove_logsGrow {s t : State} {bytes : List Byte} (h : handlerMove bytes s = some (.next t)) :
    LogsGrow s t := by
  unfold handlerMove at h
  split at h
  · split_ifs at h
    refine runAs_logsGrow ?_ (Option.some.inj h)
    exact ⟨rfl, rfl, rfl⟩
  · cases h
    exact KeepsLogs.emit ⟨rfl, rfl, rfl⟩ _

theorem posMove_logsGrow {s t : State} (h : posMove s = some (.next t)) : LogsGrow s t := by
  unfold posMove at h
  split at h
  · exact bootMove_logsGrow h
  · exact readMove_logsGrow h
  · exact readMove_logsGrow h
  · exact readMove_logsGrow h
  · exact handlerMove_logsGrow h

theorem adjustMove_logsGrow {s t : State} {r : Rail} {next : Phase} (h : adjustMove r next s = some (.next t)) :
    LogsGrow s t := by
  unfold adjustMove at h
  split_ifs at h
  refine runAs_logsGrow ?_ (Option.some.inj h)
  exact ⟨rfl, rfl, rfl⟩

theorem loopMove_logsGrow {s t : State} (h : loopMove s = some (.next t)) : LogsGrow s t := by
  unfold loopMove at h
  cases hp : s.seq.phase <;> rw [hp] at h <;> dsimp only at h
  case idle => cases h
  case adjVdd | adjVpp => exact adjustMove_logsGrow h
  case entry | check | sleep1 | sleep2 | exit =>
    cases h
    exact KeepsLogs.logsGrow ⟨rfl, rfl, rfl⟩

theorem ctxMove_logsGrow {s t : State} {c : Ctx} (h : ctxMove c s = some (.next t)) : LogsGrow s t := by
  obtain ⟨-, ⟨-, u, hu, e⟩ | ⟨-, -, hi⟩ | ⟨-, -, ⟨-, hp⟩ | ⟨-, hl⟩⟩⟩ := ctxMove_cases h
  · cases e
    exact (completeWait_keepsLogs hu).logsGrow
  · exact issueMove_logsGrow hi
  · exact posMove_logsGrow hp
  · exact loopMove_logsGrow hl

theorem ctxTurn_logsGrow {s t : State} {c : Ctx} (h : ctxTurn c s = .next t) : LogsGrow s t := by
  rcases ctxTurn_cases c s with ⟨o, hm, e⟩ | ⟨-, -, e⟩ | ⟨-, -, e⟩
  · exact ctxMove_logsGrow (hm.trans (congrArg some (e.symm.trans h)))
  · cases e.symm.trans h
  · cases e.symm.trans h
    exact (KeepsLogs.refl _).logsGrow

/-- A step that is no reset keeps the build and adds at most one response and one refusal. -/
theorem step_logsGrow {s t : State} (h : step s = .next t) (hmove : s.nextMove ≠ .reset) : LogsGrow s t := by
  rw [step_eq] at h
  cases hm : s.nextMove <;> rw [hm] at h
  case a | b =>
    have hturn : LogsGrow s.popMove t := ctxTurn_logsGrow h
    exact hturn
  case reset => exact absurd hm hmove

/-- Settles O57: `step_logsGrow`, and the reset keeps the build. -/
theorem logsOnlyGrow : Obligations.LogsOnlyGrow := by
  intro s t h
  by_cases hmove : s.nextMove = .reset
  · rw [step_eq, hmove] at h
    cases h
    exact ⟨rfl, fun hne => absurd hmove hne⟩
  · obtain ⟨hbuild, hout, hrefusals⟩ := step_logsGrow h hmove
    exact ⟨hbuild, fun _ => ⟨hout, hrefusals⟩⟩

end Sys2Proof.Machine
end

section
/-! A storage too small for the calibration records (20_memory.md R66). -/

namespace Sys2Proof.Machine
open Sys2Proof.Claims

theorem exec_railLoadCal (r : Rail) (s : State) :
    exec (.railLoadCal r) s = runShared .onlyA (opRailLoadCal r) s := rfl

theorem exec_railSaveCal (r : Rail) (m : F32) (s : State) :
    exec (.railSaveCal r m) s = runShared .onlyA (opRailSaveCal r m) s := rfl

theorem exec_saveCal (r : Rail) (p1 p2 : Byte) (s : State) :
    exec (.saveCal r p1 p2) s = runHandler (fun s => (opRailSaveCal r (decFloat p1 p2) s).respond) s := rfl

/-- An operation of A on shared state that may run commits its outcome. -/
theorem runShared_onlyA {body : State → OpOut} {s : State} (h : CanRun .a s) :
    runShared .onlyA body s = .next ((body s).commit .a) := by
  obtain ⟨hissuer, hmutex⟩ := h
  rw [runShared_run, hissuer]
  · simp [hissuer]
  · rwa [hissuer, State.mayTake_iff]

theorem recordsInRange_eq_false {s : State} (h : s.build.nvmSize < 13) : s.recordsInRange = false := by
  simpa [State.recordsInRange] using h

theorem opRailLoadCal_outOfRange {r : Rail} {s : State} (h : s.build.nvmSize < 13) :
    opRailLoadCal r s = .refuse s .nvmRange := by
  simp [opRailLoadCal, recordsInRange_eq_false h]

/-- A save beyond the storage is refused once the offset register is written (R16; log 19). -/
theorem opRailSaveCal_outOfRange {r : Rail} {m : F32} {s : State} (h : s.build.nvmSize < 13)
    (hen : s.enPin r ≠ .unassigned) (hcfg : configured (s.reg r).cfg = true) :
    opRailSaveCal r m s =
      .refuse (s.afterUncal.setReg r { s.reg r with cal := f32Sub m (s.uncal r) }) .nvmRange := by
  have hrail : s.railConfigured r = true := by simp [State.railConfigured, hen, hcfg]
  have hchan : (s.reg r).cfg.channel ≠ .unassigned := by
    simp only [configured, Bool.and_eq_true, bne_iff_ne] at hcfg
    exact hcfg.2
  simp [opRailSaveCal, hrail, withUncal_assigned hchan, opRegSetCal, recordsInRange_eq_false, h]

/-- Settles O27: both accesses end in the refusal before the record is read or written. -/
theorem recordBeyondStorageRefused : Obligations.RecordBeyondStorageRefused := by
  intro r m p1 p2 s hrun hsize
  have hmay : s.mayTake .a = true := (s.mayTake_iff _).mpr hrun.2
  rw [exec_railLoadCal, exec_railSaveCal, exec_saveCal, runShared_onlyA hrun, runShared_onlyA hrun,
    runHandler_run hmay, opRailLoadCal_outOfRange hsize]
  refine ⟨rfl, fun hen hcfg => ⟨⟨_, rfl, ?_⟩, ⟨_, rfl, ?_⟩⟩⟩
  all_goals
    rw [opRailSaveCal_outOfRange hsize hen hcfg]
    simp

end Sys2Proof.Machine
end

section
/-! The step that runs an operation (00_scope.md R7): of a context's list, of the dispatcher, of the boot sequence. -/

namespace Sys2Proof.Machine
open Sys2Proof.Claims

theorem ready_of_mayTake {i : Instr} {c : Ctx} {s : State} (h : s.mayTake c = true) : ready i c s = true := by
  simp [ready, h]

theorem ctx_eq_of_ne_other {c o : Ctx} (h : o ≠ c.other) : o = c := by
  cases c <;> cases o <;> simp_all [Ctx.other]

theorem mayTake_of_ne_other {s : State} {c : Ctx} (h : s.mutex ≠ some c.other) : s.mayTake c = true := by
  rw [State.mayTake_iff]
  cases hm : s.mutex with
  | none => exact .inl rfl
  | some o => exact .inr (congrArg some (ctx_eq_of_ne_other fun e => h (by rw [hm, e])))

/-- When it is `c`'s turn, the step is `c`'s move. -/
theorem step_of_ctxMove {s : State} {c : Ctx} {o : Host.Outcome State Fault Refusal} (hn : s.nextMove = turnOf c)
    (hm : ctxMove c s.popMove = some o) : step s = o := by
  have hturn : ctxTurn c s.popMove = o := by rw [ctxTurn, hm]
  rw [step_eq, hn]
  cases c <;> exact hturn

/-- At rest, A's move is that of its position. -/
theorem ctxMove_of_atRest {s : State} (h : AtRest .a s) : ctxMove .a s = posMove s := by
  obtain ⟨hstuck, hwait, hprog⟩ := h
  simp [ctxMove, hstuck, hwait, hprog]

/-- A context that is between operations issues the head of its list. -/
theorem ctxMove_of_issue {s : State} {c : Ctx} (hstuck : (s.ctx c).stuck = false) (hwait : (s.ctx c).wait = .none)
    (hprog : (s.ctx c).prog ≠ []) : ctxMove c s = issueMove c s := by
  simp [ctxMove, hstuck, hwait, hprog]

theorem issueMove_of_decode {s : State} {c : Ctx} {is : Issue} {rest : List Issue} {i : Instr}
    (hprog : (s.ctx c).prog = is :: rest) (hdec : decodeInternal is = .ok i) (hready : ready i c s = true) :
    issueMove c s = some (runAs c i (s.setCtx c { s.ctx c with prog := rest })) := by
  simp [issueMove, State.popIssue, hprog, hdec, hready]

/-- Settles O50: with the mutex free or its own the context is ready, and each of its three moves runs the operation. -/
theorem stepRunsDecodedOperation : Obligations.StepRunsDecodedOperation := by
  refine ⟨fun c is rest i s hn hstuck hwait hprog hdec hmutex => step_of_ctxMove hn ?_,
    fun bytes i s hn hrest hpos hdec hmutex => step_of_ctxMove (c := .a) hn ?_,
    fun k s hn hrest hpos hmutex => step_of_ctxMove (c := .a) hn ?_⟩
  · have hready : ready i c s.popMove = true := ready_of_mayTake ((s.mayTake_iff c).mpr hmutex)
    exact (ctxMove_of_issue (s := s.popMove) hstuck hwait (by simp [hprog])).trans
      (issueMove_of_decode (s := s.popMove) hprog hdec hready)
  · have hready : ready i .a s.popMove = true := ready_of_mayTake (mayTake_of_ne_other hmutex)
    rw [ctxMove_of_atRest (s := s.popMove) hrest]
    simp [posMove, hpos, handlerMove, hdec, hready, runAs]
  · have hready : ready (bootInstr s.build k) .a s.popMove = true := ready_of_mayTake (mayTake_of_ne_other hmutex)
    rw [ctxMove_of_atRest (s := s.popMove) hrest]
    simp [posMove, hpos, bootMove, hready, runAs]

end Sys2Proof.Machine
end

section
/-! What an operation does to the regulators, the pulse outputs, the NVM and the sequencer (10_state.md R21 to R27, R33, R34,
R38): `RailEffect` names every change of one rail with the operations that make it, and `exec_effect` says that an
operation does nothing else. The writers of each field, the duty bounds and the state's invariant follow from it. -/

namespace Sys2Proof.Machine
open Sys2Proof.Claims

/-! ### The operations that write a rail (R21 to R27) -/

/-- The operations that write the configuration of rail `r` (R21). -/
def Configures (r : Rail) (i : Instr) : Prop := (∃ c, i = .regConfigure r c) ∨ ∃ rc, i = .railConfigure r rc

/-- The operations that start rail `r` (R26). -/
def Starts (r : Rail) (i : Instr) : Prop := i = .regStart r ∨ i = .railsStart

/-- The operations that stop rail `r`, but for a reconfigure (R26). -/
def Stops (r : Rail) (i : Instr) : Prop := i = .regStop r ∨ i = .railsStop

/-- The operations that write only the target of rail `r` (R22). -/
def Retargets (r : Rail) (i : Instr) : Prop := (∃ v, i = .regSetTarget r v) ∨ ∃ p q, i = .setV r p q

/-- The operations that clear the offset of rail `r` and set its target (R22, R25). -/
def InitsCal (r : Rail) (i : Instr) : Prop := (∃ v, i = .railInitCal r v) ∨ i = .initCal r

/-- The operations that save the record of rail `r` (R38). -/
def SavesRecord (r : Rail) (i : Instr) : Prop := (∃ m, i = .railSaveCal r m) ∨ ∃ p q, i = .saveCal r p q

/-- The operations that write only the offset register of rail `r` (R25), a save among them. -/
def SetsOffset (r : Rail) (i : Instr) : Prop := (∃ v, i = .regSetCal r v) ∨ i = .railLoadCal r ∨ SavesRecord r i

/-- What an adjust with the measured voltage `v` makes of a running regulator and its output: the duty is left, or the new
one is written to both (R130). -/
inductive Adjusted (g : RegState) (p : Pwm) (v : F32) : RegState → Pwm → Prop
  | hold (heq : f32Eq (newDuty v g.target g.duty g.cfg) g.duty = true) : Adjusted g p v { g with measured := v } p
  | move : Adjusted g p v { g with measured := v, duty := newDuty v g.target g.duty g.cfg }
      { p with duty := newDuty v g.target g.duty g.cfg }

/-- Every change an operation makes to the regulator `g` and the pulse output `p` of rail `r`. -/
inductive RailEffect (r : Rail) (g : RegState) (p : Pwm) (i : Instr) : RegState → Pwm → Prop
  | same : RailEffect r g p i g p
  | configure {cfg : RegulatorConfig} (hi : Configures r i) (hwf : cfgWF cfg = true) :
      RailEffect r g p i { g with cfg := cfg } p
  | reconfigure {cfg : RegulatorConfig} (hi : Configures r i) (hwf : cfgWF cfg = true) :
      RailEffect r g p i { g with cfg := cfg, duty := g.cfg.minDuty, running := false }
        { p with duty := g.cfg.minDuty, armed := false }
  | start (hi : Starts r i) (hcfg : configured g.cfg = true) :
      RailEffect r g p i { g with duty := g.cfg.minDuty, running := true } ⟨g.cfg.pin, g.cfg.freq, g.cfg.minDuty, true⟩
  | stop (hi : Stops r i) :
      RailEffect r g p i { g with duty := g.cfg.minDuty, running := false }
        { p with duty := g.cfg.minDuty, armed := false }
  | target {v : F32} (hi : Retargets r i) (hv : f32Ge v f32_0 = true) : RailEffect r g p i { g with target := v } p
  | initCal {v : F32} (hi : InitsCal r i) (hv : v = g.target ∨ f32Ge v f32_0 = true) :
      RailEffect r g p i { g with cal := f32_0, target := v } p
  | offset {v : F32} (hi : SetsOffset r i) : RailEffect r g p i { g with cal := v } p
  | adjustStopped (hi : i = .regAdjust r) (hrun : g.running = false) :
      RailEffect r g p i { g with measured := f32_0, duty := f32_0 } p
  | adjust {v : F32} {g' : RegState} {p' : Pwm} (hi : i = .regAdjust r) (hrun : g.running = true)
      (hadj : Adjusted g p v g' p') : RailEffect r g p i g' p'

/-! ### What an operation leaves alone -/

/-- `t` has the build, the regulators, the pulse outputs, the NVM and the sequencer of `s`. -/
def SameBlock (s t : State) : Prop :=
  t.build = s.build ∧ (∀ r, t.reg r = s.reg r) ∧ (∀ r, t.pwm r = s.pwm r) ∧ t.nvm = s.nvm ∧ t.seq = s.seq

theorem SameBlock.refl (s : State) : SameBlock s s := ⟨rfl, fun _ => rfl, fun _ => rfl, rfl, rfl⟩

theorem SameBlock.trans {s t u : State} (h1 : SameBlock s t) (h2 : SameBlock t u) : SameBlock s u := by
  obtain ⟨b1, g1, p1, n1, q1⟩ := h1
  obtain ⟨b2, g2, p2, n2, q2⟩ := h2
  exact ⟨b2.trans b1, fun r => (g2 r).trans (g1 r), fun r => (p2 r).trans (p1 r), n2.trans n1, q2.trans q1⟩

theorem sameBlock_refuse (s : State) (why : RefuseReason) : SameBlock s (s.refuse why) := by simp [SameBlock]
theorem sameBlock_emit (s : State) (x : Text) : SameBlock s (s.emit x) := by simp [SameBlock]
theorem sameBlock_setResult (s : State) (c : Ctx) (x : Result) : SameBlock s (s.setResult c x) := by
  simp [SameBlock]
theorem sameBlock_popIssue (s : State) (c : Ctx) : SameBlock s (s.popIssue c) := by simp [SameBlock]
theorem sameBlock_afterUncal (s : State) : SameBlock s s.afterUncal := by simp [SameBlock]

/-- A result reaches the issuer, or the run is marked, without a write to the block. -/
theorem sameBlock_commit (o : OpOut) (c : Ctx) : SameBlock o.state (o.commit c) := by
  cases o with
  | ret t res => exact sameBlock_setResult t c res
  | refuse t why => exact sameBlock_refuse t why

theorem sameBlock_respond (o : OpOut) : SameBlock o.state o.respond := by
  cases o with
  | ret t res =>
    cases res with
    | bool b => cases b <;> exact sameBlock_emit t _
    | _ => exact sameBlock_emit t _
  | refuse t why => exact sameBlock_refuse t why

/-! ### What an operation does -/

/-- What the operation `i` does to the sequencer (R211, R212). -/
inductive SeqEffect (i : Instr) (q : Seq) : Seq → Prop
  | same : SeqEffect i q q
  | launch (hi : i = .seqLaunch) (hq : q.status = .stopped) : SeqEffect i q ⟨.starting, .entry⟩
  | stop (hi : i = .seqStop) (hq : q.status = .running) : SeqEffect i q { q with status := .stopping }

/-- The NVM of `t` is that of `s`, but for a record that the operation `i` saved (R38, R66). -/
def NvmEffect (i : Instr) (s t : State) : Prop :=
  t.nvm = s.nvm ∨ ∃ r v, SavesRecord r i ∧ s.recordsInRange = true ∧ t.nvm = (s.saveRecord r v).nvm

/-- Everything the operation `i` can do to the block from `s` to `t`. -/
structure Effect (i : Instr) (s t : State) : Prop where
  build : t.build = s.build
  rail : ∀ r, RailEffect r (s.reg r) (s.pwm r) i (t.reg r) (t.pwm r)
  nvm : NvmEffect i s t
  seq : SeqEffect i s.seq t.seq

/-- The operation `i` changes at most the regulator and the pulse output of rail `r`. -/
structure OnRail (r : Rail) (i : Instr) (s t : State) : Prop where
  rail : RailEffect r (s.reg r) (s.pwm r) i (t.reg r) (t.pwm r)
  rest : t.build = s.build ∧ t.reg r.other = s.reg r.other ∧ t.pwm r.other = s.pwm r.other ∧ t.nvm = s.nvm ∧
    t.seq = s.seq

/-- A state that agrees with the last one on the block is reached by the same effect. -/
theorem Effect.after {i : Instr} {s t u : State} (h : Effect i s t) (hsame : SameBlock t u) : Effect i s u := by
  obtain ⟨hbuild, hrail, hnvm, hseq⟩ := h
  obtain ⟨b, g, p, n, q⟩ := hsame
  refine ⟨b.trans hbuild, fun r => ?_, ?_, ?_⟩
  · rw [g, p]; exact hrail r
  · rw [NvmEffect, n]; exact hnvm
  · rw [q]; exact hseq

theorem Effect.of_same {i : Instr} {s t : State} (h : SameBlock s t) : Effect i s t :=
  Effect.after ⟨rfl, fun _ => .same, .inl rfl, .same⟩ h

/-- An effect depends only on the block part of the state before it. -/
theorem Effect.before {i : Instr} {s t u : State} (hsame : SameBlock s t) (h : Effect i t u) : Effect i s u := by
  obtain ⟨hbuild, hrail, hnvm, hseq⟩ := h
  obtain ⟨b, g, p, n, q⟩ := hsame
  refine ⟨hbuild.trans b, fun r => ?_, ?_, ?_⟩
  · rw [← g, ← p]; exact hrail r
  · simpa [NvmEffect, State.recordsInRange, b, n] using hnvm
  · rw [← q]; exact hseq

theorem OnRail.refl (r : Rail) (i : Instr) (s : State) : OnRail r i s s := ⟨.same, rfl, rfl, rfl, rfl, rfl⟩

theorem OnRail.after {r : Rail} {i : Instr} {s t u : State} (h : OnRail r i s t) (hsame : SameBlock t u) :
    OnRail r i s u := by
  obtain ⟨hrail, b, g, p, n, q⟩ := h
  obtain ⟨b', g', p', n', q'⟩ := hsame
  refine ⟨?_, b'.trans b, (g' _).trans g, (p' _).trans p, n'.trans n, q'.trans q⟩
  rw [g', p']; exact hrail

theorem OnRail.before {r : Rail} {i : Instr} {s t u : State} (hsame : SameBlock s t) (h : OnRail r i t u) :
    OnRail r i s u := by
  obtain ⟨hrail, b', g', p', n', q'⟩ := h
  obtain ⟨b, g, p, n, q⟩ := hsame
  refine ⟨?_, b'.trans b, g'.trans (g _), p'.trans (p _), n'.trans n, q'.trans q⟩
  rw [← g, ← p]; exact hrail

/-- One change of each rail, VDD's first, is an effect on both. -/
theorem OnRail.both {i : Instr} {s t u : State} (h1 : OnRail .vdd i s t) (h2 : OnRail .vpp i t u) : Effect i s u := by
  obtain ⟨hvdd, b1, g1, p1, n1, q1⟩ := h1
  obtain ⟨hvpp, b2, g2, p2, n2, q2⟩ := h2
  refine ⟨b2.trans b1, fun r => ?_, .inl (n2.trans n1), ?_⟩
  · cases r
    · rw [show u.reg .vdd = t.reg .vdd from g2, show u.pwm .vdd = t.pwm .vdd from p2]; exact hvdd
    · rw [← show t.reg .vpp = s.reg .vpp from g1, ← show t.pwm .vpp = s.pwm .vpp from p1]; exact hvpp
  · rw [q2, q1]; exact .same

theorem OnRail.effect {r : Rail} {i : Instr} {s t : State} (h : OnRail r i s t) : Effect i s t := by
  cases r
  · exact h.both (.refl _ _ _)
  · exact (OnRail.refl _ _ _).both h

/-- After `bind` of a continuation that writes nothing of the block, the rail's change is that of the first part. -/
theorem OnRail.bind {r : Rail} {i : Instr} {s : State} {o : OpOut} {k : State → Result → OpOut}
    (h : OnRail r i s o.state) (hk : ∀ t res, SameBlock t (k t res).state) : OnRail r i s (o.bind k).state := by
  cases o with
  | ret t res => exact h.after (hk t res)
  | refuse t why => exact h

/-! ### The regulator's operations (R126 to R132) -/

theorem opRegConfigure_onRail {r : Rail} {i : Instr} (hi : Configures r i) (cfg : RegulatorConfig) (s : State) :
    OnRail r i s (opRegConfigure r cfg s).state := by
  unfold opRegConfigure
  dsimp only
  split_ifs with hwf hpin hstop
  · exact .refl _ _ _
  · exact .refl _ _ _
  · refine ⟨?_, by simp⟩
    simpa using RailEffect.reconfigure hi (by simpa using hwf)
  · refine ⟨?_, by simp⟩
    simpa using RailEffect.configure hi (by simpa using hwf)

theorem opRegStart_onRail {r : Rail} {i : Instr} (hi : Starts r i) (s : State) :
    OnRail r i s (opRegStart r s).state := by
  unfold opRegStart
  dsimp only
  split_ifs with hcfg
  · exact .refl _ _ _
  · refine ⟨?_, by simp⟩
    simpa using RailEffect.start hi (by simpa using hcfg)

theorem opRegStop_onRail {r : Rail} {i : Instr} (hi : Stops r i) (s : State) :
    OnRail r i s (opRegStop r s).state := by
  unfold opRegStop
  split_ifs with hcfg
  · exact .refl _ _ _
  · refine ⟨?_, by simp⟩
    simpa using RailEffect.stop hi

/-- A set target, if any is written, is at least 0 (R129). -/
theorem opRegSetTarget_state (r : Rail) (v : F32) (s : State) :
    (opRegSetTarget r v s).state = s ∨
      ∃ v', f32Ge v' f32_0 = true ∧ (opRegSetTarget r v s).state = s.setReg r { s.reg r with target := v' } := by
  unfold opRegSetTarget
  extract_lets v'
  split_ifs with hnan heq
  · exact .inl rfl
  · exact .inl rfl
  · refine .inr ⟨v', ?_, rfl⟩
    unfold v'
    split_ifs with hneg
    · decide
    · have hv : f32IsNaN v = false := by simpa using hnan
      have h0 : f32IsNaN f32_0 = false := by decide
      exact f32Le_iff.mpr ⟨h0, hv, (f32Lt_false_iff hv h0).mp (by simpa using hneg)⟩

theorem opRegSetTarget_onRail {r : Rail} {i : Instr} (hi : Retargets r i) (v : F32) (s : State) :
    OnRail r i s (opRegSetTarget r v s).state := by
  rcases opRegSetTarget_state r v s with e | ⟨v', hv', e⟩ <;> rw [e]
  · exact .refl _ _ _
  · refine ⟨?_, by simp⟩
    simpa using RailEffect.target hi hv'

theorem opRegSetCal_onRail {r : Rail} {i : Instr} (hi : SetsOffset r i) (v : F32) (s : State) :
    OnRail r i s (opRegSetCal r v s).state := by
  refine ⟨?_, by simp [opRegSetCal]⟩
  simpa [opRegSetCal] using RailEffect.offset hi

theorem applyAdjust_adjusted (r : Rail) (v : F32) (s : State) :
    Adjusted (s.reg r) (s.pwm r) v ((s.applyAdjust r v).reg r) ((s.applyAdjust r v).pwm r) := by
  unfold State.applyAdjust
  extract_lets g d
  split_ifs with heq
  · simpa using Adjusted.hold heq
  · simpa using Adjusted.move

theorem applyAdjust_onRail {r : Rail} {s : State} (hrun : (s.reg r).running = true) (v : F32) :
    OnRail r (.regAdjust r) s (s.applyAdjust r v) := by
  refine ⟨.adjust rfl hrun (applyAdjust_adjusted r v s), ?_⟩
  unfold State.applyAdjust
  dsimp only
  split_ifs <;> simp

theorem opRegAdjust_onRail (r : Rail) (s : State) : OnRail r (.regAdjust r) s (opRegAdjust r s).state := by
  unfold opRegAdjust
  dsimp only
  split_ifs with hrun
  · refine ⟨?_, by simp⟩
    simpa using RailEffect.adjustStopped rfl (by simpa using hrun)
  · have hrun' : (s.afterUncal.reg r).running = true := by simpa using hrun
    by_cases hchan : (s.reg r).cfg.channel = .unassigned
    · rw [withUncal_unassigned hchan]
      exact .refl _ _ _
    · rw [withUncal_assigned hchan]
      exact .before (sameBlock_afterUncal s) (applyAdjust_onRail hrun' _)

/-! ### The rails' operations (R161 to R175) -/

theorem sameBlock_applyRailConfig (s : State) (r : Rail) (rc : RailConfig) : SameBlock s (s.applyRailConfig r rc) := by
  simp [SameBlock]

theorem opRailConfigure_onRail {r : Rail} {i : Instr} (hi : Configures r i) (rc : RailConfig) (s : State) :
    OnRail r i s (opRailConfigure r rc s).state :=
  (opRegConfigure_onRail hi rc.reg s).bind fun t _ => sameBlock_applyRailConfig t r rc

theorem opRailOn_same (r : Rail) (s : State) : SameBlock s (opRailOn r s).state := by
  unfold opRailOn
  split_ifs <;> simp [SameBlock]

theorem opRailOff_same (r : Rail) (s : State) : SameBlock s (opRailOff r s).state := by
  unfold opRailOff
  split_ifs <;> simp [SameBlock]

theorem opRailToggle_same (r : Rail) (s : State) : SameBlock s (opRailToggle r s).state := by
  unfold opRailToggle
  split_ifs <;> simp [SameBlock]

theorem opRailInitCal_onRail {r : Rail} {i : Instr} (hi : InitsCal r i) (ref : F32) (s : State) :
    OnRail r i s (opRailInitCal r ref s).state := by
  unfold opRailInitCal opRegSetCal
  split_ifs
  · exact .refl _ _ _
  · rw [OpOut.bind_ret]
    rcases opRegSetTarget_state r ref (s.setReg r { s.reg r with cal := f32_0 }) with e | ⟨v, hv, e⟩ <;> rw [e]
    · refine ⟨?_, by simp⟩
      simpa using RailEffect.initCal hi (.inl rfl)
    · refine ⟨?_, by simp⟩
      simpa using RailEffect.initCal hi (.inr hv)

/-- A save writes the offset register and, inside the storage, the record (R167). -/
theorem opRailSaveCal_effect {r : Rail} {i : Instr} (hi : SavesRecord r i) (m : F32) (s : State) :
    Effect i s (opRailSaveCal r m s).state := by
  unfold opRailSaveCal
  split_ifs
  · exact .of_same (.refl _)
  by_cases hchan : (s.reg r).cfg.channel = .unassigned
  · rw [withUncal_unassigned hchan]
    exact .of_same (.refl _)
  · rw [withUncal_assigned hchan]
    refine .before (sameBlock_afterUncal s) ?_
    generalize s.afterUncal = u
    extract_lets off
    have offset := (opRegSetCal_onRail (.inr (.inr hi)) off u).effect
    unfold opRegSetCal at offset ⊢
    rw [OpOut.bind_ret]
    split_ifs with hrange
    · obtain ⟨hbuild, hrail, -, hseq⟩ := offset
      refine ⟨hbuild, hrail, .inr ⟨r, off, hi, ?_, by simp⟩, hseq⟩
      simpa [State.recordsInRange] using hrange
    · exact offset

theorem opRailLoadCal_onRail (r : Rail) (s : State) : OnRail r (.railLoadCal r) s (opRailLoadCal r s).state := by
  unfold opRailLoadCal
  split_ifs
  · exact .refl _ _ _
  · exact (opRegSetCal_onRail (.inr (.inl rfl)) _ s).bind fun t _ => .refl t

theorem opSetRoute_same (k : RouteBit) (b : Bool) (s : State) : SameBlock s (opSetRoute k b s).state := by
  unfold opSetRoute
  split_ifs <;> exact .refl s

theorem opSetOnVpp_same (b : Bool) (s : State) : SameBlock s (opSetOnVpp b s).state := by
  unfold opSetOnVpp
  split_ifs <;> exact .refl s

/-- An operation on both rails changes each as the operation on it does (R180, R181). -/
theorem opBothRails_effect {i : Instr} {op : Rail → State → OpOut} (h : ∀ r s, OnRail r i s (op r s).state)
    (s : State) : Effect i s (opBothRails op s).state := by
  have vdd := h .vdd s
  unfold opBothRails
  cases hop : op .vdd s with
  | refuse t why => rw [hop] at vdd; exact vdd.effect
  | ret t res =>
    rw [hop] at vdd
    exact vdd.both ((h .vpp t).bind fun u _ => .refl u)

/-! ### The sequencer's operations (R211 to R219) -/

theorem opSeqLaunch_effect (s : State) (c : Ctx) : Effect .seqLaunch s (opSeqLaunch s c) := by
  unfold opSeqLaunch
  split_ifs with hq
  · exact .of_same (sameBlock_setResult _ _ _)
  · refine ⟨by simp, fun r => ?_, .inl (by simp), ?_⟩
    · cases c <;> exact .same
    · simpa using SeqEffect.launch rfl (not_not.mp hq)

theorem opSeqStop_effect (s : State) (c : Ctx) : Effect .seqStop s (opSeqStop s c) := by
  unfold opSeqStop
  split_ifs with hq
  · exact .of_same (sameBlock_setResult _ _ _)
  · refine ⟨by simp, fun r => ?_, .inl (by simp), ?_⟩
    · cases c <;> exact .same
    · simpa using SeqEffect.stop rfl (not_not.mp hq)

theorem opSeqLock_same (s : State) (c : Ctx) : SameBlock s (opSeqLock s c) := by
  unfold opSeqLock
  split
  · exact sameBlock_setResult _ c _
  · split_ifs <;> simp [SameBlock]

theorem opSeqUnlock_same (s : State) (c : Ctx) : SameBlock s (opSeqUnlock s c) := by
  unfold opSeqUnlock
  split_ifs
  · exact sameBlock_setResult _ c _
  · exact sameBlock_refuse _ _

theorem opSeqPutParam_same (w : U32) (s : State) (c : Ctx) : SameBlock s (opSeqPutParam w s c) := by
  unfold opSeqPutParam
  split_ifs
  · exact sameBlock_setResult _ _ _
  · split <;> simp [SameBlock]

theorem opSeqGetParam_same (s : State) (c : Ctx) : SameBlock s (opSeqGetParam s c) := by
  unfold opSeqGetParam
  split_ifs
  · exact sameBlock_setResult _ _ _
  · split <;> simp [SameBlock]

/-! ### One operation -/

theorem runShared_effect {i : Instr} {ctxs : Allowed} {body : State → OpOut} {s t : State}
    (h : Effect i s (body s).state) (hrun : runShared ctxs body s = .next t) : Effect i s t := by
  rcases runShared_cases ctxs body s with ⟨-, e⟩ | ⟨-, -, e⟩ | ⟨-, -, e⟩ <;> cases e.symm.trans hrun
  · exact .of_same (sameBlock_refuse _ _)
  · exact .of_same (.refl _)
  · exact h.after (sameBlock_commit _ _)

theorem runHandler_effect {i : Instr} {body : State → State} {s t : State} (h : Effect i s (body s))
    (hrun : runHandler body s = .next t) : Effect i s t := by
  rcases runHandler_cases body s with ⟨-, e⟩ | ⟨-, e⟩ <;> cases e.symm.trans hrun
  · exact .of_same (.refl _)
  · exact h

theorem runFree_effect {i : Instr} {ctxs : Allowed} {body : State → Ctx → State} {s t : State}
    (h : ∀ c, Effect i s (body s c)) (hrun : runFree ctxs body s = .next t) : Effect i s t := by
  rcases runFree_cases ctxs body s with ⟨-, e⟩ | ⟨-, e⟩ <;> cases e.symm.trans hrun
  · exact .of_same (sameBlock_refuse _ _)
  · exact h _

/-- A handler does what its rail operation does (R255). -/
theorem runHandler_respond_effect {i : Instr} {op : State → OpOut} {s t : State} (h : Effect i s (op s).state)
    (hrun : runHandler (fun s => (op s).respond) s = .next t) : Effect i s t :=
  runHandler_effect (h.after (sameBlock_respond _)) hrun

/-- Every operation does to the block what `Effect` lists, and nothing else. -/
theorem exec_effect {i : Instr} {s t : State} (h : exec i s = .next t) : Effect i s t := by
  unfold exec at h
  cases i with
  | nop | getV | getDuty | getCal => exact runHandler_effect (.of_same (sameBlock_emit _ _)) h
  | enable r p1 =>
    refine runHandler_respond_effect (.of_same ?_) h
    split_ifs
    · exact opRailOn_same r s
    · exact opRailOff_same r s
  | setV => exact runHandler_respond_effect (opRegSetTarget_onRail (.inr ⟨_, _, rfl⟩) _ _).effect h
  | initCal => exact runHandler_respond_effect (opRailInitCal_onRail (.inr rfl) _ _).effect h
  | saveCal => exact runHandler_respond_effect (opRailSaveCal_effect (.inr ⟨_, _, rfl⟩) _ _) h
  | setA9 | setA18 | setCe | setOe | setWe => exact runHandler_respond_effect (.of_same (opSetRoute_same _ _ _)) h
  | setVddOnVpp => exact runHandler_respond_effect (.of_same (opSetOnVpp_same _ _)) h
  | regConfigure => exact runShared_effect (opRegConfigure_onRail (.inl ⟨_, rfl⟩) _ _).effect h
  | regStart => exact runShared_effect (opRegStart_onRail (.inl rfl) _).effect h
  | regStop => exact runShared_effect (opRegStop_onRail (.inl rfl) _).effect h
  | regSetTarget => exact runShared_effect (opRegSetTarget_onRail (.inl ⟨_, rfl⟩) _ _).effect h
  | regAdjust => exact runShared_effect (opRegAdjust_onRail _ _).effect h
  | regSetCal => exact runShared_effect (opRegSetCal_onRail (.inl ⟨_, rfl⟩) _ _).effect h
  | regGetCal | regGetTarget | regGetV | regGetDuty | regIsRunning | railIsOn | railsIsRunning =>
    exact runShared_effect (.of_same (.refl _)) h
  | railConfigure => exact runShared_effect (opRailConfigure_onRail (.inr ⟨_, rfl⟩) _ _).effect h
  | railOn => exact runShared_effect (.of_same (opRailOn_same _ _)) h
  | railOff => exact runShared_effect (.of_same (opRailOff_same _ _)) h
  | railToggle => exact runShared_effect (.of_same (opRailToggle_same _ _)) h
  | railInitCal => exact runShared_effect (opRailInitCal_onRail (.inl ⟨_, rfl⟩) _ _).effect h
  | railSaveCal => exact runShared_effect (opRailSaveCal_effect (.inl ⟨_, rfl⟩) _ _) h
  | railLoadCal => exact runShared_effect (opRailLoadCal_onRail _ _).effect h
  | vppSetA9 | vppSetA18 | vppSetCe | vppSetOe | vppSetWe => exact runShared_effect (.of_same (opSetRoute_same _ _ _)) h
  | vddSetOnVpp => exact runShared_effect (.of_same (opSetOnVpp_same _ _)) h
  | railsStart => exact runShared_effect (opBothRails_effect (fun _ => opRegStart_onRail (.inr rfl)) _) h
  | railsStop => exact runShared_effect (opBothRails_effect (fun _ => opRegStop_onRail (.inr rfl)) _) h
  | seqLaunch => exact runFree_effect (opSeqLaunch_effect _) h
  | seqStop => exact runFree_effect (opSeqStop_effect _) h
  | seqIsStopRequested | seqGetStatus => exact runFree_effect (fun _ => .of_same (sameBlock_setResult _ _ _)) h
  | seqLock => exact runFree_effect (fun c => .of_same (opSeqLock_same s c)) h
  | seqUnlock => exact runFree_effect (fun c => .of_same (opSeqUnlock_same s c)) h
  | seqPutParam w => exact runFree_effect (fun c => .of_same (opSeqPutParam_same w s c)) h
  | seqGetParam => exact runFree_effect (fun c => .of_same (opSeqGetParam_same s c)) h

/-! ### The writers of each field (R21 to R27, R38) -/

/-- Settles O58: the one effect on the NVM is a saved record, which changes no byte outside it. -/
theorem onlySavesWriteNvm : Obligations.OnlySavesWriteNvm := by
  intro i s t a h hne
  rcases (exec_effect h).nvm with same | ⟨r, v, hsave, -, saved⟩
  · exact absurd (congrArg (nvmGet · a) same) hne
  · refine ⟨r, fun houtside => hne ?_, hsave⟩
    rw [State.nvmByte, saved]
    exact nvmByte_saveRecord_outside s r v a houtside

section
variable {r : Rail} {i : Instr} {g g' : RegState} {p p' : Pwm}

theorem RailEffect.measured_writer (h : RailEffect r g p i g' p') (hne : g'.measured ≠ g.measured) :
    i = .regAdjust r := by
  cases h with
  | adjustStopped hi => exact hi
  | adjust hi => exact hi
  | _ => exact absurd rfl hne

theorem RailEffect.cfg_writer (h : RailEffect r g p i g' p') (hne : g'.cfg ≠ g.cfg) : Configures r i := by
  cases h with
  | configure hi => exact hi
  | reconfigure hi => exact hi
  | adjust _ _ hadj => cases hadj <;> exact absurd rfl hne
  | _ => exact absurd rfl hne

theorem RailEffect.target_writer (h : RailEffect r g p i g' p') (hne : g'.target ≠ g.target) :
    Retargets r i ∨ InitsCal r i := by
  cases h with
  | target hi => exact .inl hi
  | initCal hi => exact .inr hi
  | adjust _ _ hadj => cases hadj <;> exact absurd rfl hne
  | _ => exact absurd rfl hne

theorem RailEffect.cal_writer (h : RailEffect r g p i g' p') (hne : g'.cal ≠ g.cal) :
    SetsOffset r i ∨ InitsCal r i := by
  cases h with
  | offset hi => exact .inl hi
  | initCal hi => exact .inr hi
  | adjust _ _ hadj => cases hadj <;> exact absurd rfl hne
  | _ => exact absurd rfl hne

/-- The duty of the register and of the output, and the output's arming, are written by starts and stops, the stop inside
a configure among them; the two duties by an adjust as well. -/
theorem RailEffect.duty_writer (h : RailEffect r g p i g' p') :
    (Starts r i ∨ Stops r i ∨ Configures r i) ∨
      p'.armed = p.armed ∧ (i = .regAdjust r ∨ g'.duty = g.duty ∧ p'.duty = p.duty) := by
  cases h with
  | start hi => exact .inl (.inl hi)
  | stop hi => exact .inl (.inr (.inl hi))
  | reconfigure hi => exact .inl (.inr (.inr hi))
  | adjustStopped hi => exact .inr ⟨rfl, .inl hi⟩
  | adjust hi _ hadj => cases hadj <;> exact .inr ⟨rfl, .inl hi⟩
  | _ => exact .inr ⟨rfl, .inr ⟨rfl, rfl⟩⟩

/-- The running flag is set by starts and cleared by stops, the stop inside a configure among them. -/
theorem RailEffect.running_writer (h : RailEffect r g p i g' p') :
    (Starts r i ∧ g'.running = true) ∨ ((Stops r i ∨ Configures r i) ∧ g'.running = false) ∨
      g'.running = g.running := by
  cases h with
  | start hi => exact .inl ⟨hi, rfl⟩
  | stop hi => exact .inr (.inl ⟨.inl hi, rfl⟩)
  | reconfigure hi => exact .inr (.inl ⟨.inr hi, rfl⟩)
  | adjust _ _ hadj => cases hadj <;> exact .inr (.inr rfl)
  | _ => exact .inr (.inr rfl)

theorem RailEffect.pin_freq_writer (h : RailEffect r g p i g' p') :
    Starts r i ∨ p'.pin = p.pin ∧ p'.freq = p.freq := by
  cases h with
  | start hi => exact .inl hi
  | adjust _ _ hadj => cases hadj <;> exact .inr ⟨rfl, rfl⟩
  | _ => exact .inr ⟨rfl, rfl⟩

end

/-- Settles O59: each register's writers are the effects that change it. -/
theorem regulatorRegisterWriters : Obligations.RegulatorRegisterWriters := by
  intro i s t r h
  have effect := (exec_effect h).rail r
  refine ⟨effect.measured_writer, effect.cfg_writer, fun hne => ?_, fun hne => ?_⟩
  · rcases effect.target_writer hne with (set | wire) | (init | initWire)
    exacts [.inl set, .inr (.inr (.inl wire)), .inr (.inl init), .inr (.inr (.inr initWire))]
  · rcases effect.cal_writer hne with (set | load | save | saveWire) | (init | initWire)
    exacts [.inl set, .inr (.inr (.inr (.inl load))), .inr (.inr (.inl save)),
      .inr (.inr (.inr (.inr (.inr saveWire)))), .inr (.inl init), .inr (.inr (.inr (.inr (.inl initWire))))]

/-- Settles O60: each field's writers are the effects that change it. -/
theorem dutyAndOutputWriters : Obligations.DutyAndOutputWriters := by
  intro i s t r h starts stops
  have effect := (exec_effect h).rail r
  have stops_of (h : Stops r i ∨ Configures r i) : stops := or_assoc.mp h
  refine ⟨fun hne => ?_, fun on off => ?_, fun off on => ?_, fun hne => ?_, fun hne => ?_, fun hne => ?_⟩
  · rcases effect.duty_writer with (start | stop) | ⟨-, adjust | ⟨same, -⟩⟩
    exacts [.inl start, .inr (.inl (stops_of stop)), .inr (.inr adjust), absurd same hne]
  · rcases effect.running_writer with ⟨start, -⟩ | ⟨-, off'⟩ | same
    · exact start
    · simp [on] at off'
    · simp [on, off] at same
  · rcases effect.running_writer with ⟨-, on'⟩ | ⟨stop, -⟩ | same
    · simp [off] at on'
    · exact stops_of stop
    · simp [on, off] at same
  · rcases effect.pin_freq_writer with start | ⟨pin, freq⟩
    · exact start
    · exact hne.elim (absurd pin) (absurd freq)
  · rcases effect.duty_writer with (start | stop) | ⟨same, -⟩
    exacts [.inl start, .inr (stops_of stop), absurd same hne]
  · rcases effect.duty_writer with (start | stop) | ⟨-, adjust | ⟨-, same⟩⟩
    exacts [.inl start, .inr (.inl (stops_of stop)), .inr (.inr adjust), absurd same hne]

end Sys2Proof.Machine
end

section
/-! The reset values (10_state.md R45), the state's invariant (R21, R22, R24, R38, R210) and the duty bounds (R24): what each
effect of an operation keeps, and that a step is an effect on the state itself or on the state with B's phase moved on. -/

namespace Sys2Proof.Machine
open Sys2Proof.Claims

/-! ### Reset (R45, R330, R331) -/

@[simp] theorem reg_resetOf (b : Build) (nvm : List Host.Cell) (env : Env) (r : Rail) :
    (State.resetOf b nvm env).reg r = .reset := by cases r <;> rfl

/-- A reset keeps the build and the NVM, and what the environment has still to supply (log 22). -/
theorem step_reset {s : State} (h : s.nextMove = .reset) :
    step s = .next (.resetOf s.build s.nvm s.popMove.env) := by
  rw [step_eq, h]
  rfl

/-- Settles O53: a reset ends in a reset state, whose fields are those of the table. -/
theorem resetValues : Obligations.ResetValues := by
  refine ⟨fun s h => ⟨_, _, step_reset h, rfl, ⟨_, _, _, rfl⟩, fun _ => rfl⟩, fun b nvm env => ?_⟩
  refine ⟨fun r => ?_, rfl, rfl, rfl, rfl, rfl, rfl, rfl, rfl, rfl, rfl, rfl, fun _ => rfl, rfl, rfl, rfl⟩
  cases r <;> exact ⟨rfl, rfl, rfl, rfl, rfl, rfl, rfl, rfl, rfl⟩

theorem regInv_reset : RegState.reset.Inv := ⟨.inl rfl, nofun, by decide, by decide⟩

theorem stateInv_resetOf {b : Build} {nvm : List Host.Cell} (env : Env) (hwf : nvmWf nvm = true)
    (hinside : ∀ a, b.nvmSize ≤ a → nvmGet nvm a = nvmDefault) : (State.resetOf b nvm env).Inv :=
  ⟨hwf, hinside, fun r => by rw [reg_resetOf]; exact regInv_reset, rfl⟩

/-- Settles O55: the reset regulators and sequencer meet the invariant, and the NVM is the one given. -/
theorem stateInvariantAtReset : Obligations.StateInvariantAtReset :=
  ⟨fun _ _ env hwf hinside => stateInv_resetOf env hwf hinside, stateInv_resetOf _ rfl fun _ _ => rfl⟩

/-! ### The duty bounds (R24, R121, R125, R130) -/

/-- What a well-formed configuration says of the duty: the bounds and the steps are finite, the bounds ordered (R121). -/
theorem cfgWF_duty {c : RegulatorConfig} (h : cfgWF c = true) :
    f32Finite c.minDuty = true ∧ f32Finite c.maxDuty = true ∧ f32Finite c.slowStep = true ∧
      f32Finite c.fastStep = true ∧ f32Le c.minDuty c.maxDuty = true := by
  simp only [cfgWF, Bool.and_eq_true] at h
  tauto

/-- A configured regulator's file is not `UNCONFIGURED`, so it is well formed (R21, R123). -/
theorem RegState.Inv.cfgWF {g : RegState} (h : g.Inv) (hcfg : configured g.cfg = true) : cfgWF g.cfg = true := by
  obtain ⟨unconfigured | wf, -⟩ := h
  · rw [unconfigured] at hcfg
    exact absurd hcfg (by decide)
  · exact wf

theorem RegState.Inv.finite_minDuty {g : RegState} (h : g.Inv) : f32Finite g.cfg.minDuty = true := by
  obtain ⟨unconfigured | wf, -⟩ := h
  · rw [unconfigured]
    decide
  · exact (cfgWF_duty wf).1

/-- The unclamped duty is no NaN: a finite duty, or one finite step away from it (R125). -/
theorem stepDuty_not_nan {c : RegulatorConfig} {d0 : F32} (hwf : cfgWF c = true) (hd0 : f32Finite d0 = true)
    (actual : F32) (w : Bands) : f32IsNaN (stepDuty actual w d0 c) = false := by
  obtain ⟨-, -, hslow, hfast, -⟩ := cfgWF_duty hwf
  unfold stepDuty
  split_ifs
  · exact f32Add_not_nan hd0 hfast
  · exact f32Sub_not_nan hd0 hfast
  · exact f32Add_not_nan hd0 hslow
  · exact f32Sub_not_nan hd0 hslow
  · exact f32Finite_not_nan hd0

/-- The new duty of a running regulator lies within its bounds (R130 step (4)). -/
theorem RegState.Inv.newDuty_bounds {g : RegState} (h : g.Inv) (hrun : g.running = true) (v : F32) :
    f32Le g.cfg.minDuty (newDuty v g.target g.duty g.cfg) = true ∧
      f32Le (newDuty v g.target g.duty g.cfg) g.cfg.maxDuty = true := by
  obtain ⟨-, hwf, -, hduty⟩ := h
  obtain ⟨-, -, -, -, hle⟩ := cfgWF_duty (hwf hrun)
  exact f32Clamp_bounds (stepDuty_not_nan (hwf hrun) hduty _ _) hle

/-- Numerically equal values lie within the same bounds. -/
theorem f32_between_of_eq {x y lo hi : F32} (heq : f32Eq x y = true) (h : f32Le lo x = true ∧ f32Le x hi = true) :
    f32Le lo y = true ∧ f32Le y hi = true := by
  simp only [f32Le_iff, f32Eq_iff] at *
  obtain ⟨-, hy, hval⟩ := heq
  rw [hval] at h
  tauto

/-- A start and a stop leave the duty at its lower bound. -/
theorem dutyInBounds_minDuty {g : RegState} (hwf : cfgWF g.cfg = true) (hduty : g.duty = g.cfg.minDuty) :
    DutyInBounds g := by
  obtain ⟨hmin, -, -, -, hle⟩ := cfgWF_duty hwf
  rw [DutyInBounds, hduty]
  have hnan := f32Finite_not_nan hmin
  exact ⟨f32Le_iff.mpr ⟨hnan, hnan, le_rfl⟩, hle⟩

/-- An adjust of a running regulator leaves the duty within its bounds, whatever it was. -/
theorem Adjusted.dutyInBounds {g g' : RegState} {p p' : Pwm} {v : F32} (h : Adjusted g p v g' p') (hinv : g.Inv)
    (hrun : g.running = true) : DutyInBounds g' := by
  have bounds := hinv.newDuty_bounds hrun v
  cases h with
  | hold heq => exact f32_between_of_eq heq bounds
  | move => exact bounds

/-- While the regulator runs on under the same configuration, every effect keeps the duty bounds. -/
theorem RailEffect.dutyInBounds {r : Rail} {i : Instr} {g g' : RegState} {p p' : Pwm} (h : RailEffect r g p i g' p')
    (hinv : g.Inv) (hbounds : DutyInBounds g) (hrun : g.running = true) (hrun' : g'.running = true)
    (hcfg : g'.cfg = g.cfg) : DutyInBounds g' := by
  obtain ⟨-, hwf, -⟩ := id hinv
  cases h with
  | same | target | initCal | offset => exact hbounds
  | configure => cases hcfg; exact hbounds
  | reconfigure | stop => cases hrun'
  | start => exact dutyInBounds_minDuty (hwf hrun) rfl
  | adjustStopped _ stopped => rw [hrun] at stopped; cases stopped
  | adjust _ _ hadj => exact hadj.dutyInBounds hinv hrun

/-! ### What an effect keeps of the invariant -/

theorem RailEffect.inv {r : Rail} {i : Instr} {g g' : RegState} {p p' : Pwm} (h : RailEffect r g p i g' p')
    (hinv : g.Inv) : g'.Inv := by
  have hmin := hinv.finite_minDuty
  obtain ⟨hcfg, hwf, htarget, hduty⟩ := id hinv
  cases h with
  | same | offset => exact hinv
  | configure _ wf => exact ⟨.inr wf, fun _ => wf, htarget, hduty⟩
  | reconfigure _ wf => exact ⟨.inr wf, nofun, htarget, hmin⟩
  | start _ configured => exact ⟨hcfg, fun _ => hinv.cfgWF configured, htarget, hmin⟩
  | stop => exact ⟨hcfg, nofun, htarget, hmin⟩
  | target _ hv => exact ⟨hcfg, hwf, hv, hduty⟩
  | initCal _ hv => exact ⟨hcfg, hwf, hv.elim (fun e => e ▸ htarget) id, hduty⟩
  | adjustStopped _ stopped => exact ⟨hcfg, hwf, htarget, (by decide : f32Finite f32_0 = true)⟩
  | adjust _ hrun hadj =>
    obtain ⟨finiteMin, finiteMax, -⟩ := cfgWF_duty (hwf hrun)
    obtain ⟨hge, hle⟩ := hinv.newDuty_bounds hrun _
    cases hadj with
    | hold => exact ⟨hcfg, hwf, htarget, hduty⟩
    | move => exact ⟨hcfg, hwf, htarget, f32Finite_of_between finiteMin finiteMax hge hle⟩

/-- A phase that may stand while running may stand while stopping (R212). -/
theorem SeqEffect.inv {i : Instr} {q q' : Seq} (h : SeqEffect i q q') (hinv : q.Inv) : q'.Inv := by
  cases h with
  | same => exact hinv
  | launch => exact rfl
  | stop _ running =>
    simp only [Seq.Inv, running] at hinv ⊢
    tauto

/-- A record inside the storage leaves every byte beyond the storage as it was (R66). -/
theorem NvmEffect.inv {i : Instr} {s t : State} (h : NvmEffect i s t) (hbuild : t.build = s.build)
    (hwf : nvmWf s.nvm = true) (hinside : NvmInside s) : nvmWf t.nvm = true ∧ NvmInside t := by
  unfold NvmInside State.nvmByte at *
  rw [hbuild]
  rcases h with same | ⟨r, v, -, hrange, saved⟩
  · rw [same]
    exact ⟨hwf, hinside⟩
  · rw [saved]
    refine ⟨nvmWf_saveRecord s r v hwf, fun a ha => ?_⟩
    have hsize : 13 ≤ s.build.nvmSize := by simpa [State.recordsInRange] using hrange
    have hend : Config.calBase r + 5 ≤ 13 := by cases r <;> decide
    exact (nvmByte_saveRecord_outside s r v a (.inr (by omega))).trans (hinside a ha)

theorem Effect.inv {i : Instr} {s t : State} (h : Effect i s t) (hinv : s.Inv) : t.Inv := by
  obtain ⟨hwf, hinside, hreg, hseq⟩ := hinv
  obtain ⟨hwf', hinside'⟩ := h.nvm.inv h.build hwf hinside
  exact ⟨hwf', hinside', fun r => (h.rail r).inv (hreg r), h.seq.inv hseq⟩

/-! ### One step -/

/-- B's position in the loop, moved on by one (R220 to R226); in `Idle` it stays. -/
def Seq.advance (q : Seq) : Seq :=
  match q.phase with
  | .idle => q
  | .entry => { status := .running, phase := .check }
  | .check => { q with phase := if q.status = .stopping then .exit else .adjVdd }
  | .adjVdd => { q with phase := .sleep1 }
  | .sleep1 => { q with phase := .adjVpp }
  | .adjVpp => { q with phase := .sleep2 }
  | .sleep2 => { q with phase := .check }
  | .exit => { status := .stopped, phase := .idle }

/-- The state with B's position in the loop moved on. -/
def State.advance (s : State) : State := { s with seq := s.seq.advance }

/-- Every move of the loop keeps the phases that go with the status (R210). -/
theorem Seq.Inv.advance {q : Seq} (h : q.Inv) : q.advance.Inv := by
  obtain ⟨status, phase⟩ := q
  cases status with
  | stopped =>
    obtain rfl : phase = .idle := h
    exact rfl
  | starting =>
    obtain rfl : phase = .entry := h
    exact .inl rfl
  | running => obtain rfl | rfl | rfl | rfl | rfl := h <;> simp [Seq.advance, Seq.Inv]
  | stopping => obtain rfl | rfl | rfl | rfl | rfl | rfl := h <;> simp [Seq.advance, Seq.Inv]

theorem State.Inv.advance {s : State} (h : s.Inv) : s.advance.Inv := by
  obtain ⟨hwf, hinside, hreg, hseq⟩ := h
  exact ⟨hwf, hinside, hreg, hseq.advance⟩

/-- The block of `t` comes from that of `s` by one operation at most. -/
def Acts (s t : State) : Prop := ∃ i, Effect i s t

theorem Acts.of_same {s t : State} (h : SameBlock s t) : Acts s t := ⟨.nop, .of_same h⟩

theorem Acts.before {s t u : State} (hsame : SameBlock s t) (h : Acts t u) : Acts s u := by
  obtain ⟨i, effect⟩ := h
  exact ⟨i, effect.before hsame⟩

/-- The issuer, A's position and the use of a move are no part of the block. -/
theorem sameBlock_issuer (s : State) (c : Ctx) : SameBlock s { s with issuer := c } := .refl s
theorem sameBlock_pos (s : State) (pos : APos) : SameBlock s { s with pos := pos } := .refl s
theorem sameBlock_popMove (s : State) : SameBlock s s.popMove := .refl s

theorem runAs_acts {s u t : State} {c : Ctx} {i : Instr} (hsame : SameBlock s u) (h : runAs c i u = .next t) :
    Acts s t :=
  ⟨i, .before (hsame.trans (sameBlock_issuer u c)) (exec_effect h)⟩

theorem sameBlock_finish (s : State) (c : Ctx) (x : Result) : SameBlock s (s.finish c x) := by simp [SameBlock]

/-- The end of a wait takes the mutex or moves a word through a channel, at most. -/
theorem completeWait_same {s t : State} {c : Ctx} (h : completeWait s c = some t) : SameBlock s t := by
  unfold completeWait at h
  split at h
  · cases h
  all_goals
    split at h <;> cases h
    refine .trans ?_ (sameBlock_finish _ _ _)
    cases c <;> exact .refl s

theorem issueMove_acts {s t : State} {c : Ctx} (h : issueMove c s = some (.next t)) : Acts s t := by
  unfold issueMove at h
  split at h
  · cases h
  · split at h
    · split_ifs at h
      exact runAs_acts (sameBlock_popIssue s c) (Option.some.inj h)
    · cases h
      exact .of_same ((sameBlock_popIssue s c).trans (sameBlock_refuse _ _))
    · cases h

theorem bootMove_acts {s t : State} {k : BootStep} (h : bootMove k s = some (.next t)) : Acts s t := by
  unfold bootMove at h
  dsimp only at h
  split_ifs at h
  exact runAs_acts (sameBlock_pos s _) (Option.some.inj h)

theorem takeOpcode_same (c1 c2 : Byte) (s : State) : SameBlock s (takeOpcode c1 c2 s) := by
  unfold takeOpcode
  split
  · exact sameBlock_pos s _
  · split
    · exact (sameBlock_pos s _).trans (sameBlock_emit _ _)
    · exact sameBlock_pos s _

theorem takeParam_same (op : Byte) (cs : Text) (s : State) : SameBlock s (takeParam op cs s) := by
  unfold takeParam
  extract_lets want
  split_ifs
  · exact sameBlock_pos s _
  · split
    · exact (sameBlock_pos s _).trans (sameBlock_emit _ _)
    · exact sameBlock_pos s _

theorem readEvent_same (e : HostEvent) (s : State) : SameBlock s (readEvent e s) := by
  cases e with
  | timeout => exact sameBlock_pos s _
  | char c =>
    unfold readEvent
    dsimp only
    split
    · exact sameBlock_pos s _
    · exact takeOpcode_same _ _ _
    · exact takeParam_same _ _ _
    all_goals exact .refl s

theorem readMove_acts {s t : State} (h : readMove s = some (.next t)) : Acts s t := by
  unfold readMove at h
  split at h <;> cases h
  exact .of_same (readEvent_same _ s.popHost)

theorem handlerMove_acts {s t : State} {bytes : List Byte} (h : handlerMove bytes s = some (.next t)) : Acts s t := by
  unfold handlerMove at h
  split at h
  · split_ifs at h
    exact runAs_acts (sameBlock_pos s _) (Option.some.inj h)
  · cases h
    exact .of_same ((sameBlock_pos s _).trans (sameBlock_emit _ _))

theorem posMove_acts {s t : State} (h : posMove s = some (.next t)) : Acts s t := by
  unfold posMove at h
  split at h
  · exact bootMove_acts h
  · exact readMove_acts h
  · exact readMove_acts h
  · exact readMove_acts h
  · exact handlerMove_acts h

/-- B's loop step moves the phase on, and in its two adjust phases adjusts that rail (R220 to R227). -/
theorem loopMove_acts {s t : State} (h : loopMove s = some (.next t)) : Acts s.advance t := by
  unfold loopMove at h
  unfold State.advance Seq.advance
  cases hphase : s.seq.phase <;> rw [hphase] at h <;> dsimp only at h ⊢
  case idle => cases h
  case adjVdd | adjVpp =>
    unfold adjustMove at h
    split_ifs at h
    exact runAs_acts (.refl _) (Option.some.inj h)
  case entry | check | sleep1 | sleep2 | exit =>
    cases h
    exact .of_same (.refl _)

theorem ctxMove_acts {s t : State} {c : Ctx} (h : ctxMove c s = some (.next t)) : Acts s t ∨ Acts s.advance t := by
  obtain ⟨-, ⟨-, u, hu, e⟩ | ⟨-, -, hi⟩ | ⟨-, -, ⟨-, hp⟩ | ⟨-, hl⟩⟩⟩ := ctxMove_cases h
  · cases e
    exact .inl (.of_same (completeWait_same hu))
  · exact .inl (issueMove_acts hi)
  · exact .inl (posMove_acts hp)
  · exact .inr (loopMove_acts hl)

theorem ctxTurn_acts {s t : State} {c : Ctx} (h : ctxTurn c s = .next t) : Acts s t ∨ Acts s.advance t := by
  rcases ctxTurn_cases c s with ⟨o, hm, e⟩ | ⟨-, -, e⟩ | ⟨-, -, e⟩
  · exact ctxMove_acts (hm.trans (congrArg some (e.symm.trans h)))
  · cases e.symm.trans h
  · cases e.symm.trans h
    exact .inl (.of_same (.refl s))

/-- A step resets the block, or one operation at most acts on it, after B's phase has moved on or not. -/
theorem step_acts {s t : State} (h : step s = .next t) :
    t = .resetOf s.build s.nvm s.popMove.env ∨ Acts s t ∨ Acts s.advance t := by
  cases hmove : s.nextMove with
  | reset =>
    cases (step_reset hmove).symm.trans h
    exact .inl rfl
  | a | b =>
    rw [step_eq, hmove] at h
    have popped := sameBlock_popMove s
    have popped' : SameBlock s.advance s.popMove.advance := sameBlock_popMove s.advance
    exact .inr ((ctxTurn_acts h).imp (.before popped) (.before popped'))

/-- Settles O56: the reset state meets the invariant, and it is kept by every effect and by the loop's phases. -/
theorem everyStepKeepsStateInvariant : Obligations.EveryStepKeepsStateInvariant := by
  intro s t h hinv
  rcases step_acts h with rfl | ⟨_, effect⟩ | ⟨_, effect⟩
  · obtain ⟨hwf, hinside, -⟩ := hinv
    exact stateInv_resetOf _ hwf hinside
  · exact effect.inv hinv
  · exact effect.inv hinv.advance

/-- An adjust of context B that may run, of a running regulator with a channel (R130). -/
theorem exec_regAdjust_running {r : Rail} {s : State} (hrun : CanRun .b s) (hrunning : (s.reg r).running = true)
    (hchan : (s.reg r).cfg.channel ≠ .unassigned) :
    exec (.regAdjust r) s =
      .next ((s.afterUncal.applyAdjust r (f32Add (s.uncal r) (s.reg r).cal)).setResult .b .nothing) := by
  obtain ⟨hissuer, hmutex⟩ := hrun
  have hadmits : Allowed.onlyB.admits s.issuer = true := by simp [hissuer]
  have hmay : s.mayTake s.issuer = true := by rwa [hissuer, State.mayTake_iff]
  have hexec : exec (.regAdjust r) s = .next ((opRegAdjust r s).commit s.issuer) := runShared_run hadmits hmay
  rw [hexec, hissuer]
  simp [opRegAdjust, hrunning, withUncal_assigned hchan]

/-- Settles O19: the adjust clamps the duty, and every effect on a regulator that runs on keeps it within its bounds. -/
theorem runningDutyBounded : Obligations.RunningDutyBounded := by
  refine ⟨fun r s t hcan hrunning hchan hinv h => ?_, fun r s t h hinv hrunning hbounds hrunning' hcfg => ?_⟩
  · cases (exec_regAdjust_running hcan hrunning hchan).symm.trans h
    have adjusted := applyAdjust_adjusted r (f32Add (s.uncal r) (s.reg r).cal) s.afterUncal
    rw [State.reg_setResult]
    exact adjusted.dutyInBounds (by simpa using hinv) (by simpa using hrunning)
  · rcases step_acts h with rfl | ⟨_, effect⟩ | ⟨_, effect⟩
    · rw [reg_resetOf] at hrunning'
      cases hrunning'
    · exact (effect.rail r).dutyInBounds hinv hbounds hrunning hrunning' hcfg
    · exact (effect.rail r).dutyInBounds hinv hbounds hrunning hrunning' hcfg

end Sys2Proof.Machine
end

section
/-! The calibration record in the NVM (20_memory.md R61 to R65): what a save leaves in its five bytes, and that a change
of any single one of them shows in the checksum. -/

namespace Sys2Proof.Machine

/-! ### The checksum (R62) -/

/-- Of five bytes, the last is the checksum of the first four. -/
def ChecksumHolds (b : Nat → Byte) : Prop := b 4 = cks (b 0) (b 1) (b 2) (b 3)

/-- A sum of bytes determines each of its terms, so one changed byte always shows. -/
theorem ChecksumHolds.not_update {b : Nat → Byte} (h : ChecksumHolds b) {k : Nat} (hk : k < 5) {x : Byte}
    (hx : x ≠ b k) : ¬ ChecksumHolds (Function.update b k x) := by
  intro hsum
  apply hx
  unfold ChecksumHolds cks at h hsum
  obtain rfl | hterm : k = 4 ∨ k < 4 := by omega
  · simp at hsum
    exact hsum.trans h.symm
  · interval_cases k <;> simpa [h, eq_comm] using hsum

/-! ### A record after a save (R63 to R65) -/

theorem State.recordValid_iff (s : State) (r : Rail) :
    s.recordValid r = true ↔ ChecksumHolds (s.recordByte r) ∧ f32Finite (s.recordValue r) = true := by
  simp [State.recordValid, ChecksumHolds]

theorem State.loadRecord_of_valid {s : State} {r : Rail} (h : s.recordValid r = true) :
    s.loadRecord r = s.recordValue r := if_pos h

/-- A record whose checksum does not match is loaded as `0.0` (R64). -/
theorem State.loadRecord_of_not_checksumHolds {s : State} {r : Rail} (h : ¬ ChecksumHolds (s.recordByte r)) :
    s.loadRecord r = f32_0 := if_neg fun valid => h ((s.recordValid_iff r).mp valid).1

theorem recordValue_saveRecord (s : State) (r : Rail) (v : F32) (h : nvmWf s.nvm = true) :
    (s.saveRecord r v).recordValue r = v := by
  have byte := fun k hk => recordByte_saveRecord s r v k hk h
  rw [State.recordValue, byte 0 (by decide), byte 1 (by decide), byte 2 (by decide), byte 3 (by decide)]
  exact f32OfBytes_f32Byte v

theorem checksumHolds_saveRecord (s : State) (r : Rail) (v : F32) (h : nvmWf s.nvm = true) :
    ChecksumHolds ((s.saveRecord r v).recordByte r) := by
  have byte := fun k hk => recordByte_saveRecord s r v k hk h
  rw [ChecksumHolds, byte 0 (by decide), byte 1 (by decide), byte 2 (by decide), byte 3 (by decide),
    byte 4 (by decide)]
  rfl

/-- Settles O28: the saved bytes have their checksum and are the bytes of the finite value. -/
theorem calibrationRecordRoundTrip : Obligations.CalibrationRecordRoundTrip := by
  intro r v s hwf hfinite
  have value := recordValue_saveRecord s r v hwf
  have valid : (s.saveRecord r v).recordValid r = true :=
    (State.recordValid_iff _ r).mpr ⟨checksumHolds_saveRecord s r v hwf, by rwa [value]⟩
  rw [State.loadRecord_of_valid valid, value]

/-! ### One changed byte (R62) -/

/-- Writing byte `k` of a record changes that byte of it and no other. -/
theorem recordByte_nvmSet (s : State) (r : Rail) (k : Nat) (x : Byte) (h : nvmWf s.nvm = true) :
    ({ s with nvm := nvmSet s.nvm (Config.calBase r + k) x } : State).recordByte r =
      Function.update (s.recordByte r) k x := by
  funext j
  by_cases hj : j = k
  · rw [hj, Function.update_self]
    exact nvmGet_nvmSet_self _ _ _ 0 h
  · rw [Function.update_of_ne hj]
    exact nvmGet_nvmSet_ne _ _ _ _ (by omega)

/-- Settles O29: the change updates one byte of a record whose checksum holds. -/
theorem singleByteCorruptionDetected : Obligations.SingleByteCorruptionDetected := by
  intro r v s hwf u byte
  have saved : ChecksumHolds (u.recordByte r) := checksumHolds_saveRecord s r v hwf
  refine ⟨saved, ?_⟩
  intro k x hk hx t
  have changed : ¬ ChecksumHolds (t.recordByte r) := by
    rw [recordByte_nvmSet u r k x (nvmWf_saveRecord s r v hwf)]
    exact saved.not_update hk hx
  exact ⟨changed, State.loadRecord_of_not_checksumHolds changed⟩

end Sys2Proof.Machine
end

section
/-! The mutex under an operation (20_memory.md R71, R72): the pseudocode of an operation on shared state does not touch
it, and nothing of it runs while the other context owns the mutex. -/

namespace Sys2Proof.Machine

/-! ### The pseudocode leaves the mutex alone (R71) -/

@[simp] theorem mutex_commit (o : OpOut) (c : Ctx) : (o.commit c).mutex = o.state.mutex := by
  cases o <;> simp

@[simp] theorem mutex_respond (o : OpOut) : o.respond.mutex = o.state.mutex := by
  cases o with
  | ret t res =>
    cases res with
    | bool b => cases b <;> rfl
    | _ => rfl
  | refuse t why => rfl

theorem mutex_bind {o : OpOut} {k : State → Result → OpOut} (hk : ∀ t res, (k t res).state.mutex = t.mutex) :
    (o.bind k).state.mutex = o.state.mutex := by
  cases o with
  | ret t res => exact hk t res
  | refuse t why => rfl

theorem mutex_withUncal {r : Rail} {s : State} {k : F32 → State → OpOut}
    (hk : ∀ v t, (k v t).state.mutex = t.mutex) : (withUncal r s k).state.mutex = s.mutex := by
  by_cases h : (s.reg r).cfg.channel = .unassigned
  · rw [withUncal_unassigned h, OpOut.state_refuse]
  · rw [withUncal_assigned h, hk, State.mutex_afterUncal]

@[simp] theorem mutex_opRegConfigure (r : Rail) (cfg : RegulatorConfig) (s : State) :
    (opRegConfigure r cfg s).state.mutex = s.mutex := by
  unfold opRegConfigure
  dsimp only
  split_ifs <;> simp

@[simp] theorem mutex_opRegStart (r : Rail) (s : State) : (opRegStart r s).state.mutex = s.mutex := by
  unfold opRegStart
  dsimp only
  split_ifs <;> simp

@[simp] theorem mutex_opRegStop (r : Rail) (s : State) : (opRegStop r s).state.mutex = s.mutex := by
  unfold opRegStop
  split_ifs <;> simp

@[simp] theorem mutex_opRegSetTarget (r : Rail) (v : F32) (s : State) :
    (opRegSetTarget r v s).state.mutex = s.mutex := by
  rcases opRegSetTarget_state r v s with e | ⟨v', -, e⟩ <;> simp [e]

@[simp] theorem mutex_opRegSetCal (r : Rail) (v : F32) (s : State) : (opRegSetCal r v s).state.mutex = s.mutex := by
  simp [opRegSetCal]

@[simp] theorem mutex_applyAdjust (r : Rail) (v : F32) (s : State) : (s.applyAdjust r v).mutex = s.mutex := by
  unfold State.applyAdjust
  dsimp only
  split_ifs <;> simp

@[simp] theorem mutex_opRegAdjust (r : Rail) (s : State) : (opRegAdjust r s).state.mutex = s.mutex := by
  unfold opRegAdjust
  dsimp only
  split_ifs
  · simp
  · exact mutex_withUncal fun _ _ => mutex_applyAdjust _ _ _

theorem mutex_opBothRails {op : Rail → State → OpOut} (h : ∀ r s, (op r s).state.mutex = s.mutex) (s : State) :
    (opBothRails op s).state.mutex = s.mutex :=
  (mutex_bind fun _ _ => (mutex_bind fun _ _ => rfl).trans (h _ _)).trans (h _ _)

@[simp] theorem mutex_opRailConfigure (r : Rail) (rc : RailConfig) (s : State) :
    (opRailConfigure r rc s).state.mutex = s.mutex :=
  (mutex_bind fun _ _ => by simp).trans (mutex_opRegConfigure _ _ _)

@[simp] theorem mutex_opRailOn (r : Rail) (s : State) : (opRailOn r s).state.mutex = s.mutex := by
  unfold opRailOn
  split_ifs <;> simp

@[simp] theorem mutex_opRailOff (r : Rail) (s : State) : (opRailOff r s).state.mutex = s.mutex := by
  unfold opRailOff
  split_ifs <;> simp

@[simp] theorem mutex_opRailToggle (r : Rail) (s : State) : (opRailToggle r s).state.mutex = s.mutex := by
  unfold opRailToggle
  split_ifs <;> simp

@[simp] theorem mutex_opRailInitCal (r : Rail) (ref : F32) (s : State) :
    (opRailInitCal r ref s).state.mutex = s.mutex := by
  unfold opRailInitCal
  split_ifs
  · rfl
  · exact (mutex_bind fun _ _ => mutex_opRegSetTarget _ _ _).trans (mutex_opRegSetCal _ _ _)

@[simp] theorem mutex_opRailSaveCal (r : Rail) (m : F32) (s : State) :
    (opRailSaveCal r m s).state.mutex = s.mutex := by
  unfold opRailSaveCal
  split_ifs
  · rfl
  · refine mutex_withUncal fun _ _ => (mutex_bind fun _ _ => ?_).trans (mutex_opRegSetCal _ _ _)
    split_ifs <;> simp

@[simp] theorem mutex_opRailLoadCal (r : Rail) (s : State) : (opRailLoadCal r s).state.mutex = s.mutex := by
  unfold opRailLoadCal
  split_ifs
  · rfl
  · exact (mutex_bind fun _ _ => rfl).trans (mutex_opRegSetCal _ _ _)

@[simp] theorem mutex_opSetRoute (k : RouteBit) (b : Bool) (s : State) :
    (opSetRoute k b s).state.mutex = s.mutex := by
  unfold opSetRoute
  split_ifs <;> rfl

@[simp] theorem mutex_opSetOnVpp (b : Bool) (s : State) : (opSetOnVpp b s).state.mutex = s.mutex := by
  unfold opSetOnVpp
  split_ifs <;> rfl

/-! ### One operation (R71, R72) -/

/-- The operation `i` runs as an internal operation on shared state, for the contexts its row allows, or as a handler of
context A; its body leaves the mutex alone. -/
inductive RunsUnderMutex (i : Instr) : Prop
  | shared (body : State → OpOut) (hexec : ∀ s, exec i s = runShared (ctxAllowed i) body s)
      (hbody : ∀ s, (body s).state.mutex = s.mutex)
  | handler (body : State → State) (hexec : ∀ s, exec i s = runHandler body s) (hctx : ctxAllowed i = .onlyA)
      (hbody : ∀ s, (body s).mutex = s.mutex)

/-- A handler that answers for one operation leaves the mutex alone if the operation does (R255). -/
theorem RunsUnderMutex.respond {i : Instr} {op : State → OpOut}
    (hexec : ∀ s, exec i s = runHandler (fun s => (op s).respond) s) (hctx : ctxAllowed i = .onlyA)
    (hop : ∀ s, (op s).state.mutex = s.mutex) : RunsUnderMutex i :=
  .handler _ hexec hctx fun s => (mutex_respond _).trans (hop s)

theorem runsUnderMutex_of_needsMutex {i : Instr} (h : needsMutex i = true) : RunsUnderMutex i := by
  cases i with
  | nop | getV | getDuty | getCal => exact .handler _ (fun _ => rfl) rfl fun _ => State.mutex_emit _ _
  | enable =>
    refine .respond (fun _ => rfl) rfl fun _ => ?_
    split_ifs <;> simp
  | setV => exact .respond (fun _ => rfl) rfl (mutex_opRegSetTarget _ _)
  | initCal => exact .respond (fun _ => rfl) rfl fun _ => mutex_opRailInitCal _ _ _
  | saveCal => exact .respond (fun _ => rfl) rfl (mutex_opRailSaveCal _ _)
  | setA9 | setA18 | setCe | setOe | setWe => exact .respond (fun _ => rfl) rfl (mutex_opSetRoute _ _)
  | setVddOnVpp => exact .respond (fun _ => rfl) rfl (mutex_opSetOnVpp _)
  | regConfigure | regStart | regStop | regSetTarget | regAdjust | regGetCal | regSetCal | regGetTarget | regGetV
  | regGetDuty | regIsRunning | railConfigure | railOn | railOff | railIsOn | railToggle | railInitCal | railSaveCal
  | railLoadCal | vppSetA9 | vppSetA18 | vppSetCe | vppSetOe | vppSetWe | vddSetOnVpp | railsIsRunning =>
    exact .shared _ (fun _ => rfl) fun _ => by simp
  | railsStart => exact .shared _ (fun _ => rfl) (mutex_opBothRails mutex_opRegStart)
  | railsStop => exact .shared _ (fun _ => rfl) (mutex_opBothRails mutex_opRegStop)
  | seqLaunch | seqStop | seqIsStopRequested | seqGetStatus | seqLock | seqUnlock | seqPutParam | seqGetParam => cases h

theorem mayTake_eq_false {s : State} {c : Ctx} (h : s.mutex = some c.other) : s.mayTake c = false := by
  cases c <;> simp [State.mayTake, h, Ctx.other]

/-- Whether it is refused, holds or runs, an operation on shared state leaves the mutex as it was. -/
theorem RunsUnderMutex.mutex_eq {i : Instr} {s t : State} (h : RunsUnderMutex i) (hexec : exec i s = .next t) :
    t.mutex = s.mutex := by
  cases h with
  | shared body hrun hbody =>
    rw [hrun] at hexec
    rcases runShared_cases (ctxAllowed i) body s with ⟨-, e⟩ | ⟨-, -, e⟩ | ⟨-, -, e⟩ <;> cases e.symm.trans hexec
    · exact State.mutex_refuse _ _
    · rfl
    · rw [mutex_commit, hbody]
  | handler body hrun _ hbody =>
    rw [hrun] at hexec
    rcases runHandler_cases body s with ⟨-, e⟩ | ⟨-, e⟩ <;> cases e.symm.trans hexec
    · rfl
    · exact hbody s

/-- An admitted operation holds while the other context owns the mutex; a handler's context is A. -/
theorem RunsUnderMutex.holds {i : Instr} {s : State} (h : RunsUnderMutex i)
    (hctx : (ctxAllowed i).admits s.issuer = true) (hother : s.mutex = some s.issuer.other) : exec i s = .next s := by
  have held := mayTake_eq_false hother
  cases h with
  | shared body hrun _ => simp [hrun, runShared, hctx, held]
  | handler body hrun onlyA _ =>
    have issuer : s.issuer = .a := by simpa [onlyA] using hctx
    rw [issuer] at held
    simp [hrun, runHandler, held]

/-- Settles O41: such an operation runs under the mutex, as an internal operation or as a handler. -/
theorem sharedOperationsRespectMutex : Obligations.SharedOperationsRespectMutex := by
  intro i s t hneeds hexec
  have runs := runsUnderMutex_of_needsMutex hneeds
  refine ⟨runs.mutex_eq hexec, fun hctx hother => ?_⟩
  cases (runs.holds hctx hother).symm.trans hexec
  rfl

end Sys2Proof.Machine
end

section
/-! The encoding (30_encoding.md R81 to R88, R93): a pattern fixes the bits of its mask, so a selector is its row's pattern
with the rail bit, and a row builds exactly what the encoder writes with its pattern. -/

namespace Sys2Proof
open Machine

/-! ### The decoder's answers (R85, R87, R93) -/

/-- A wire command is read exactly when the opcode's row builds it from the parameter bytes. -/
theorem decodeWire_ok_iff {s : Byte} {ps : List Byte} {i : Instr} :
    decodeWire (s :: ps) = .ok i ↔ ∃ row, wireRow s = some row ∧ row.build (railOfBit s) ps = some i := by
  rw [decodeWire]
  cases wireRow s with
  | none => simp
  | some row => cases hbuild : row.build (railOfBit s) ps <;> simp [hbuild]

/-- An internal operation is read exactly when the selector's row builds it from the operand and it is well formed. -/
theorem decodeInternal_ok_iff {s : Byte} {x : Operand} {i : Instr} :
    decodeInternal ⟨s, x⟩ = .ok i ↔ ∃ row, internalRow s = some row ∧ row.build (railOfBit s) x = some i ∧ i.wf = true := by
  rw [decodeInternal]
  cases internalRow s with
  | none => simp
  | some row =>
    cases hbuild : row.build (railOfBit s) x with
    | none => simp [hbuild]
    | some j =>
      simp only [Option.some.injEq, exists_eq_left', hbuild]
      constructor
      · intro h
        split_ifs at h with hwf
        cases h
        exact ⟨rfl, hwf⟩
      · rintro ⟨rfl, hwf⟩
        exact if_pos hwf

/-! ### Encoding, then decoding (R83, R84) -/

/-- Settles O1: each operation's selector finds its row, and the row builds the operation from the operands. -/
theorem decodeOfEncodeIsIdentity : Obligations.DecodeOfEncodeIsIdentity := by
  intro i hwf
  cases i with
  | nop | setA9 | setA18 | setCe | setOe | setWe | setVddOnVpp | railsStart | railsStop | railsIsRunning | seqLaunch
  | seqStop | seqIsStopRequested | seqGetStatus | seqLock | seqUnlock | seqGetParam => rfl
  | enable r | setV r | getV r | getDuty r | getCal r | initCal r | saveCal r => cases r <;> rfl
  | regConfigure r | regStart r | regStop r | regSetTarget r | regAdjust r | regGetCal r | regSetCal r | regGetTarget r
  | regGetV r | regGetDuty r | regIsRunning r | railConfigure r | railOn r | railOff r | railIsOn r | railToggle r
  | railInitCal r | railSaveCal r | railLoadCal r =>
    refine decodeInternal_ok_iff.mpr ?_
    cases r <;> exact ⟨_, rfl, rfl, hwf⟩
  | vppSetA9 | vppSetA18 | vppSetCe | vppSetOe | vppSetWe | vddSetOnVpp | seqPutParam =>
    refine decodeInternal_ok_iff.mpr ?_
    exact ⟨_, rfl, rfl, hwf⟩

/-- Settles O3: each word is the encoding of its operation. -/
theorem opcodeWordsDecode : Obligations.OpcodeWordsDecode :=
  have decodes := decodeOfEncodeIsIdentity
  ⟨decodes .nop rfl, decodes (.enable .vpp 0x01#8) rfl, decodes (.saveCal .vdd 0x05#8 0x0A#8) rfl,
    decodes (.setVddOnVpp 0x01#8) rfl, decodes (.regAdjust .vdd) rfl, decodes (.regSetTarget .vpp 0x40A00000#32) rfl,
    decodes (.railOn .vdd) rfl, decodes (.vppSetA9 true) rfl, decodes .railsStart rfl, decodes (.seqPutParam 0x2A#32) rfl⟩

/-! ### The two selector spaces (R81, R86) -/

/-- A selector agrees with its row's pattern at every bit of the mask. -/
theorem getLsbD_of_selects {mask pattern s : Byte} (h : selects mask pattern s = true) {k : Nat}
    (hmask : mask.getLsbD k = true) : s.getLsbD k = pattern.getLsbD k := by
  have hand : s &&& mask = pattern := by simpa [selects] using h
  rw [← hand, BitVec.getLsbD_and, hmask, Bool.and_true]

theorem wireRows_bit7 : ∀ row ∈ wireRows, row.mask.getLsbD 7 = true ∧ row.pattern.getLsbD 7 = false := by
  decide

theorem internalRows_bit7 : ∀ row ∈ internalRows, row.mask.getLsbD 7 = true ∧ row.pattern.getLsbD 7 = true := by
  decide

theorem wireRow_eq_none_of_bit7 {s : Byte} (h : s.getLsbD 7 = true) : wireRow s = none := by
  refine List.find?_eq_none.mpr fun row hrow hsel => ?_
  obtain ⟨hmask, hpattern⟩ := wireRows_bit7 row hrow
  exact Bool.false_ne_true (hpattern.symm.trans ((getLsbD_of_selects hsel hmask).symm.trans h))

theorem internalRow_eq_none_of_bit7 {s : Byte} (h : s.getLsbD 7 = false) : internalRow s = none := by
  refine List.find?_eq_none.mpr fun row hrow hsel => ?_
  obtain ⟨hmask, hpattern⟩ := internalRows_bit7 row hrow
  exact Bool.false_ne_true (h.symm.trans ((getLsbD_of_selects hsel hmask).trans hpattern))

theorem decodeWire_unrecognizedOpcode {s : Byte} {ps : List Byte} (h : wireRow s = none) :
    decodeWire (s :: ps) = .error .unrecognizedOpcode := by
  simp [decodeWire, h]

theorem decodeInternal_unknownSelector {is : Issue} (h : internalRow is.selector = none) :
    decodeInternal is = .error .unknownSelector := by
  simp [decodeInternal, h]

/-- Settles O4: bit 7 is in every mask, clear in the wire patterns and set in the internal ones. -/
theorem spacesNeverCross : Obligations.SpacesNeverCross :=
  ⟨fun _ _ h => decodeWire_unrecognizedOpcode (wireRow_eq_none_of_bit7 h),
    fun _ _ h => decodeInternal_unknownSelector (internalRow_eq_none_of_bit7 h)⟩

/-! ### Decoding, then encoding (R85, R87) -/

/-- The selector of a row for a rail: its pattern, with the rail bit where the mask leaves it open (R81, R82). -/
def rowSelector (mask pattern : Byte) (r : Rail) : Byte := if mask = 0xFF#8 then pattern else perRail pattern r

/-- A selector is its row's for its own rail bit. -/
theorem rowSelector_railOfBit {mask pattern s : Byte} (hmask : mask = 0xFE#8 ∨ mask = 0xFF#8)
    (h : selects mask pattern s = true) : rowSelector mask pattern (railOfBit s) = s := by
  obtain rfl : s &&& mask = pattern := by simpa [selects] using h
  clear h
  rcases hmask with rfl | rfl
  · revert s
    decide
  · exact BitVec.and_allOnes

theorem wireRows_mask : ∀ row ∈ wireRows, row.mask = 0xFE#8 ∨ row.mask = 0xFF#8 := by decide

theorem internalRows_mask : ∀ row ∈ internalRows, row.mask = 0xFE#8 ∨ row.mask = 0xFF#8 := by decide

/-- Each wire row builds, from `P` bytes only, an operation that encodes to the row's selector and these bytes. -/
theorem wireRows_build : ∀ row ∈ wireRows, ∀ (r : Rail) (ps : List Byte) (i : Instr), row.build r ps = some i →
    encode i = .wire (rowSelector row.mask row.pattern r :: ps) ∧ ps.length = row.params := by
  simp only [wireRows, List.forall_mem_cons, List.not_mem_nil, false_imp_iff, implies_true, and_true]
  and_intros
  all_goals
    rintro r (_ | ⟨p1, _ | ⟨p2, _ | _⟩⟩) i hbuild <;> cases hbuild
    exact ⟨rfl, rfl⟩

/-- Each internal row builds an operation that encodes to the row's selector and the operand. -/
theorem internalRows_build : ∀ row ∈ internalRows, ∀ (r : Rail) (x : Operand) (i : Instr), row.build r x = some i →
    encode i = .internal ⟨rowSelector row.mask row.pattern r, x⟩ := by
  simp only [internalRows, regulatorRows, railRows, containerRows, List.forall_mem_append, List.forall_mem_cons,
    List.not_mem_nil, false_imp_iff, implies_true, and_true]
  and_intros
  all_goals
    rintro r (_ | _) i hbuild <;> cases hbuild
    rfl

theorem wireRow_spec {s : Byte} {row : WireRow} (h : wireRow s = some row) :
    row ∈ wireRows ∧ selects row.mask row.pattern s = true :=
  ⟨List.mem_of_find?_eq_some h, List.find?_some (p := fun row : WireRow => selects row.mask row.pattern s) h⟩

theorem internalRow_spec {s : Byte} {row : InternalRow} (h : internalRow s = some row) :
    row ∈ internalRows ∧ selects row.mask row.pattern s = true :=
  ⟨List.mem_of_find?_eq_some h, List.find?_some (p := fun row : InternalRow => selects row.mask row.pattern s) h⟩

/-- A command that is read is encoded to the bytes it was read from, `1 + P` of them (R87). -/
theorem encode_of_decodeWire {bytes : List Byte} {i : Instr} (h : decodeWire bytes = .ok i) :
    encode i = .wire bytes ∧ ∃ s ps row, bytes = s :: ps ∧ wireRow s = some row ∧ ps.length = row.params := by
  cases bytes with
  | nil => cases h
  | cons s ps =>
    obtain ⟨row, hrow, hbuild⟩ := decodeWire_ok_iff.mp h
    obtain ⟨hmem, hsel⟩ := wireRow_spec hrow
    obtain ⟨henc, hlen⟩ := wireRows_build row hmem _ _ _ hbuild
    rw [rowSelector_railOfBit (wireRows_mask row hmem) hsel] at henc
    exact ⟨henc, s, ps, row, rfl, hrow, hlen⟩

/-- An internal operation that is read is well formed and encoded to the issue it was read from. -/
theorem encode_of_decodeInternal {is : Issue} {i : Instr} (h : decodeInternal is = .ok i) :
    encode i = .internal is ∧ i.wf = true := by
  obtain ⟨row, hrow, hbuild, hwf⟩ := decodeInternal_ok_iff.mp h
  obtain ⟨hmem, hsel⟩ := internalRow_spec hrow
  have henc := internalRows_build row hmem _ _ _ hbuild
  rw [rowSelector_railOfBit (internalRows_mask row hmem) hsel] at henc
  exact ⟨henc, hwf⟩

/-- A wire command carries no identifier (R83). -/
theorem wf_of_encode_wire {i : Instr} {bytes : List Byte} (h : encode i = .wire bytes) : i.wf = true := by
  cases i with
  | regConfigure | railConfigure => cases h
  | _ => rfl

/-- Settles O2: the row a code is read by builds only what encodes to that code. -/
theorem encodeOfDecodeIsIdentity : Obligations.EncodeOfDecodeIsIdentity := by
  intro c i h
  cases c with
  | wire bytes =>
    have henc := (encode_of_decodeWire h).1
    exact ⟨henc, wf_of_encode_wire henc⟩
  | internal is => exact encode_of_decodeInternal h

end Sys2Proof
end

section
/-! The step of an issue that is no operation (30_encoding.md R86, R93), and of an operation the host has placed (R80, R84;
log 14, log 15). -/

namespace Sys2Proof.Machine
open Sys2Proof.Claims

/-! ### An issue that is no operation (R86, R93) -/

theorem popIssue_of_prog {s : State} {c : Ctx} {is : Issue} {rest : List Issue} (h : (s.ctx c).prog = is :: rest) :
    s.popIssue c = s.setCtx c { s.ctx c with prog := rest } := by
  rw [State.popIssue, h, List.tail_cons]

/-- Settles O51: the head of the list is decoded, and neither error depends on the mutex. -/
theorem stepRejectsBadIssue : Obligations.StepRejectsBadIssue := by
  intro c is rest s hn hstuck hwait hprog
  have issues : ctxMove c s.popMove = issueMove c s.popMove :=
    ctxMove_of_issue hstuck hwait (by simp [hprog])
  have pops := popIssue_of_prog (s := s.popMove) hprog
  refine ⟨fun hrow => step_of_ctxMove hn ?_, fun hdec => step_of_ctxMove hn ?_⟩
  · rw [issues, issueMove, State.ctx_popMove, hprog]
    simp only [decodeInternal_unknownSelector hrow, pops, State.ctx_popMove]
  · rw [issues, issueMove, State.ctx_popMove, hprog]
    simp only [hdec]

/-! ### The host's placing (log 14, log 15) -/

theorem ctxAllowed_of_encode_wire {i : Instr} {bytes : List Byte} (h : encode i = .wire bytes) :
    ctxAllowed i = .onlyA := by
  cases i with
  | nop | enable | setV | getV | getDuty | getCal | initCal | saveCal | setA9 | setA18 | setCe | setOe | setWe
  | setVddOnVpp => rfl
  | _ => cases h

/-- The context that is handed an operation may issue it. -/
theorem admits_placed (ctxs : Allowed) : ctxs.admits (if ctxs.admits .a then .a else .b) = true := by
  cases ctxs <;> rfl

theorem decode_of_decodeTableWord {nbits w : Nat} {i : Instr} (h : decodeTableWord nbits w = some i) :
    decode (tableCode nbits w) = .ok i := by
  unfold decodeTableWord at h
  split at h <;> cases h
  assumption

/-- The rails, outputs, sequencer, NVM, responses, marks and build of `u` are those of `s`. -/
def KeepsMachine (s u : State) : Prop :=
  (∀ r, u.reg r = s.reg r) ∧ (∀ r, u.pwm r = s.pwm r) ∧ u.railVdd = s.railVdd ∧ u.railVpp = s.railVpp ∧
    u.seq = s.seq ∧ u.nvm = s.nvm ∧ u.out = s.out ∧ u.refusals = s.refusals ∧ u.build = s.build

theorem KeepsMachine.trans {s t u : State} (h : KeepsMachine s t) (h' : KeepsMachine t u) : KeepsMachine s u := by
  unfold KeepsMachine at *
  simp_all

theorem keepsMachine_update (s : State) (mutex : Option Ctx) (a b : CtxState) (pos : APos) (issuer : Ctx) (env : Env) :
    KeepsMachine s { s with mutex := mutex, a := a, b := b, pos := pos, issuer := issuer, env := env } :=
  ⟨fun r => by cases r <;> rfl, fun r => by cases r <;> rfl, rfl, rfl, rfl, rfl, rfl, rfl, rfl⟩

/-- The context that is to run the operation is free to move, owns the mutex or can take it, and moves next. -/
theorem readyFor_spec (s : State) (c : Ctx) :
    KeepsMachine s (s.readyFor c) ∧ (s.readyFor c).nextMove = turnOf c ∧ ((s.readyFor c).ctx c).stuck = false ∧
      ((s.readyFor c).ctx c).wait = .none ∧ ((s.readyFor c).mutex = none ∨ (s.readyFor c).mutex = some c) := by
  refine ⟨?_, ?_, ?_, ?_, ?_⟩
  · cases c <;> exact keepsMachine_update ..
  · cases c <;> rfl
  · cases c <;> rfl
  · cases c <;> rfl
  · unfold State.readyFor
    dsimp only
    split_ifs with h
    · exact (s.mayTake_iff c).mp h
    · exact .inl rfl

/-- The step of a complete command runs it as A's, the machine being as it was. -/
theorem step_handler {bytes : List Byte} {i : Instr} {s : State} (hn : s.nextMove = .a) (hrest : AtRest .a s)
    (hpos : s.pos = .handler bytes) (hdec : decodeWire bytes = .ok i) (hmutex : s.mutex = none ∨ s.mutex = some .a) :
    ∃ u, step s = exec i u ∧ u.issuer = .a ∧ u.mutex = s.mutex ∧ KeepsMachine s u := by
  obtain ⟨-, runsHandler, -⟩ := stepRunsDecodedOperation
  refine ⟨_, runsHandler bytes i s hn hrest hpos hdec ?_, rfl, rfl, ?_⟩
  · rcases hmutex with h | h <;> simp [h]
  · exact keepsMachine_update ..

/-- The step of a context's issue runs it as the context's, the machine being as it was. -/
theorem step_issue {c : Ctx} {is : Issue} {rest : List Issue} {i : Instr} {s : State} (hn : s.nextMove = turnOf c)
    (hstuck : (s.ctx c).stuck = false) (hwait : (s.ctx c).wait = .none) (hprog : (s.ctx c).prog = is :: rest)
    (hdec : decodeInternal is = .ok i) (hmutex : s.mutex = none ∨ s.mutex = some c) :
    ∃ u, step s = exec i u ∧ u.issuer = c ∧ u.mutex = s.mutex ∧ KeepsMachine s u := by
  obtain ⟨runsIssue, -, -⟩ := stepRunsDecodedOperation
  refine ⟨_, runsIssue c is rest i s hn hstuck hwait hprog hdec hmutex, rfl, by simp, ?_⟩
  cases c <;> exact keepsMachine_update ..

/-- The issue stands at the head of the context's list. -/
def State.pushIssue (s : State) (c : Ctx) (is : Issue) : State :=
  s.setCtx c { s.ctx c with prog := is :: (s.ctx c).prog }

@[simp] theorem State.ctx_pushIssue_self (s : State) (c : Ctx) (is : Issue) :
    (s.pushIssue c is).ctx c = { s.ctx c with prog := is :: (s.ctx c).prog } := State.ctx_setCtx_self ..

@[simp] theorem State.mutex_pushIssue (s : State) (c : Ctx) (is : Issue) : (s.pushIssue c is).mutex = s.mutex :=
  State.mutex_setCtx ..

theorem placeCode_internal {is : Issue} {i : Instr} (s : State) (h : decodeInternal is = .ok i) :
    placeCode s (.internal is) =
      let c := if (ctxAllowed i).admits .a then Ctx.a else .b
      (s.readyFor c).pushIssue c is := by
  simp only [placeCode, h, State.pushIssue]

/-- The placed operation is run next, by a context that may issue it and takes the mutex. -/
theorem step_placeCode {code : Code} {i : Instr} (s : State) (h : decode code = .ok i) :
    ∃ u c, step (placeCode s code) = exec i u ∧ u.issuer = c ∧ (ctxAllowed i).admits c = true ∧
      (u.mutex = none ∨ u.mutex = some c) ∧ KeepsMachine s u := by
  cases code with
  | wire bytes =>
    obtain ⟨hkeep, hn, hstuck, hwait, hmutex⟩ := readyFor_spec s .a
    obtain ⟨u, hstep, hissuer, hsame, hrun⟩ :=
      step_handler (s := placeCode s (.wire bytes)) hn ⟨hstuck, hwait, rfl⟩ rfl h hmutex
    have hplace : KeepsMachine (s.readyFor .a) (placeCode s (.wire bytes)) := keepsMachine_update ..
    refine ⟨u, .a, hstep, hissuer, ?_, ?_, (hkeep.trans hplace).trans hrun⟩
    · rw [ctxAllowed_of_encode_wire (encode_of_decodeWire h).1]; rfl
    · rwa [hsame]
  | internal is =>
    have hadmits := admits_placed (ctxAllowed i)
    rw [placeCode_internal s h]
    generalize (if (ctxAllowed i).admits .a then Ctx.a else Ctx.b) = c at hadmits
    obtain ⟨hkeep, hn, hstuck, hwait, hmutex⟩ := readyFor_spec s c
    obtain ⟨u, hstep, hissuer, hsame, hrun⟩ := step_issue (s := (s.readyFor c).pushIssue c is) (c := c)
      (by cases c <;> exact hn) (by simpa) (by simpa) (by rw [State.ctx_pushIssue_self]) h (by simpa)
    have hplace : KeepsMachine (s.readyFor c) ((s.readyFor c).pushIssue c is) := by
      cases c <;> exact keepsMachine_update ..
    exact ⟨u, c, hstep, hissuer, hadmits, by simpa [hsame], (hkeep.trans hplace).trans hrun⟩

/-- Settles O52: the placing gives the context that may issue the operation its turn, with the operation next and the
mutex its own to take. -/
theorem placedWordRunsNext : Obligations.PlacedWordRunsNext := by
  intro nbits w i s h
  obtain ⟨u, c, hstep, hissuer, hadmits, hmutex, hkeep⟩ := step_placeCode s (decode_of_decodeTableWord h)
  exact ⟨u, hstep, by rwa [hissuer], by rwa [hissuer, State.mayTake_iff], hkeep⟩

end Sys2Proof.Machine
end

section
/-! The dispatcher over the text of a command (43_host_commands.md R250 to R253): each step reads one character, and the
characters read so far are the text of the bytes they stand for (R89, R97, R98). -/

namespace Sys2Proof.Machine
open Sys2Proof.Claims

/-! ### Hex text (R97, R98) -/

theorem hexVal_hexChar : ∀ n < 16, hexVal (hexChar n) = some n := by decide

/-- The pair of a byte is read back as the byte. -/
theorem unHexPair_hexChar (b : Byte) : unHexPair (hexChar (b.toNat / 16)) (hexChar (b.toNat % 16)) = some b := by
  have hhigh := hexVal_hexChar (b.toNat / 16) (by omega)
  have hlow := hexVal_hexChar (b.toNat % 16) (by omega)
  simp [unHexPair, hhigh, hlow, Nat.div_add_mod]

theorem hexText_cons (b : Byte) (bs : List Byte) :
    hexText (b :: bs) = hexChar (b.toNat / 16) :: hexChar (b.toNat % 16) :: hexText bs := rfl

theorem hexText_append (bs cs : List Byte) : hexText (bs ++ cs) = hexText bs ++ hexText cs := List.flatMap_append

theorem length_hexText (bs : List Byte) : (hexText bs).length = 2 * bs.length := by
  induction bs with
  | nil => rfl
  | cons b bs ih => simp [hexText_cons, ih]; omega

theorem unHexAll_hexText (bs : List Byte) : unHexAll (hexText bs) = some bs := by
  induction bs with
  | nil => rfl
  | cons b bs ih => rw [hexText_cons, unHexAll, unHexPair_hexChar, ih]

/-! ### The dispatcher's steps (R251 to R253) -/

theorem run_succ_of_step {M : Host.Core} {s t : M.State} (h : M.step s = .next t) (n : Nat) :
    M.run (n + 1) s = M.run n t := by
  rw [Host.Core.run, h]

/-- `n` steps lead from `s` to `t`. -/
def Reaches (n : Nat) (s t : State) : Prop := Host.Core.run Sys2Proof.core n s = .next t

theorem Reaches.refl (s : State) : Reaches 0 s s := rfl

theorem Reaches.of_step {n : Nat} {s t u : State} (h : step s = .next t) (h' : Reaches n t u) : Reaches (n + 1) s u :=
  (run_succ_of_step (M := Sys2Proof.core) h n).trans h'

/-- `s` with A at position `p`, `host` and `sched` still to come, after `k` further moves. -/
def State.reading (s : State) (p : APos) (host : List HostEvent) (sched : List Move) (k : Nat) : State :=
  { s with pos := p, env := { s.env with host := host, sched := sched, tick := s.env.tick + k } }

section
variable {s : State} (hrest : AtRest .a s) {host : List HostEvent} {sched : List Move} {k : Nat}
include hrest

theorem step_opcodeFirst (c : Byte) :
    step (s.reading .opcodeFirst (.char c :: host) (.a :: sched) k) =
      .next (s.reading (.opcodeSecond c) host sched (k + 1)) :=
  step_of_ctxMove (c := .a) rfl (ctxMove_of_atRest hrest)

theorem step_opcodeSecond (c1 c2 : Byte) :
    step (s.reading (.opcodeSecond c1) (.char c2 :: host) (.a :: sched) k) =
      .next (takeOpcode c1 c2 (s.reading (.opcodeSecond c1) host sched (k + 1))) :=
  step_of_ctxMove (c := .a) rfl (ctxMove_of_atRest hrest)

/-- The second character of an opcode that has a row (R252). -/
theorem step_opcodeSecond_row {op : Byte} {row : WireRow} (hrow : wireRow op = some row) :
    step (s.reading (.opcodeSecond (hexChar (op.toNat / 16))) (.char (hexChar (op.toNat % 16)) :: host)
        (.a :: sched) k) =
      .next (s.reading (if row.params = 0 then .handler [op] else .params op []) host sched (k + 1)) := by
  rw [step_opcodeSecond hrest]
  simp only [takeOpcode, unHexPair_hexChar, hrow, State.reading]

theorem step_params (op c : Byte) (cs : Text) :
    step (s.reading (.params op cs) (.char c :: host) (.a :: sched) k) =
      .next (takeParam op (cs ++ [c]) (s.reading (.params op cs) host sched (k + 1))) :=
  step_of_ctxMove (c := .a) rfl (ctxMove_of_atRest hrest)

/-- A parameter character before the last is kept (R253). -/
theorem step_params_partial {op : Byte} {row : WireRow} (hrow : wireRow op = some row) {c : Byte} {cs : Text}
    (hlen : (cs ++ [c]).length < 2 * row.params) :
    step (s.reading (.params op cs) (.char c :: host) (.a :: sched) k) =
      .next (s.reading (.params op (cs ++ [c])) host sched (k + 1)) := by
  rw [step_params hrest]
  simp only [takeParam, hrow, if_pos hlen, State.reading]

/-- The last parameter character leaves the handler of the bytes next (R253). -/
theorem step_params_complete {op : Byte} {row : WireRow} (hrow : wireRow op = some row) {c : Byte} {cs : Text}
    {ps : List Byte} (hcs : cs ++ [c] = hexText ps) (hlen : ps.length = row.params) :
    step (s.reading (.params op cs) (.char c :: host) (.a :: sched) k) =
      .next (s.reading (.handler (op :: ps)) host sched (k + 1)) := by
  have hnot : ¬ (hexText ps).length < 2 * row.params := by rw [length_hexText, hlen]; omega
  rw [step_params hrest, hcs]
  simp only [takeParam, hrow, if_neg hnot, unHexAll_hexText, State.reading]

/-- The text of the parameter bytes still to come is read to its end. -/
theorem reaches_handler {op : Byte} {row : WireRow} (hrow : wireRow op = some row) (b : Byte) (bs done : List Byte)
    (hlen : (done ++ b :: bs).length = row.params) :
    Reaches (2 * (b :: bs).length)
      (s.reading (.params op (hexText done)) (chars (hexText (b :: bs)) ++ host)
        (List.replicate (2 * (b :: bs).length) .a ++ sched) k)
      (s.reading (.handler (op :: (done ++ b :: bs))) host sched (k + 2 * (b :: bs).length)) := by
  have htext (b : Byte) (done : List Byte) :
      hexText done ++ [hexChar (b.toNat / 16)] ++ [hexChar (b.toNat % 16)] = hexText (done ++ [b]) := by
    rw [hexText_append, List.append_assoc]; rfl
  induction bs generalizing b done k with
  | nil =>
    refine .of_step (step_params_partial hrest hrow ?_)
      (.of_step (step_params_complete hrest hrow (htext b done) hlen) (.refl _))
    rw [← hlen]; simp [length_hexText]; omega
  | cons b' bs ih =>
    have hk : k + 2 * (b :: b' :: bs).length = k + 1 + 1 + 2 * (b' :: bs).length := by simp; omega
    rw [List.append_cons] at hlen ⊢
    rw [hk]
    refine .of_step (step_params_partial hrest hrow ?_) (.of_step (step_params_partial hrest hrow ?_) ?_)
    · rw [← hlen]; simp [length_hexText]; omega
    · rw [htext, ← hlen]; simp [length_hexText]; 
    · rw [htext]
      exact ih b' (done ++ [b]) hlen

/-- The text of a command with `P` parameter bytes is read to its end. -/
theorem reaches_handler_of_text {op : Byte} {row : WireRow} (hrow : wireRow op = some row) {ps : List Byte}
    (hlen : ps.length = row.params) :
    Reaches (2 * (op :: ps).length)
      (s.reading .opcodeFirst (chars (hexText (op :: ps)) ++ host)
        (List.replicate (2 * (op :: ps).length) .a ++ sched) k)
      (s.reading (.handler (op :: ps)) host sched (k + 2 * (op :: ps).length)) := by
  refine .of_step (step_opcodeFirst hrest _) (.of_step (step_opcodeSecond_row hrest hrow) ?_)
  cases ps with
  | nil =>
    rw [← hlen]
    exact .refl _
  | cons b bs =>
    have hk : k + 2 * (op :: b :: bs).length = k + 1 + 1 + 2 * (b :: bs).length := by simp; omega
    rw [if_neg (by simp [← hlen]), hk]
    exact reaches_handler hrest hrow b bs [] hlen

end

/-- Settles O49: the opcode's two characters select the row, and its `P` bytes' characters lead to the handler. -/
theorem commandTextReachesHandler : Obligations.CommandTextReachesHandler := by
  intro bytes i s rest later hdec hrest hpos hhost hsched
  obtain ⟨-, op, ps, row, rfl, hrow, hlen⟩ := encode_of_decodeWire hdec
  have hstart : s.reading .opcodeFirst (chars (hexText (op :: ps)) ++ rest)
      (List.replicate (2 * (op :: ps).length) .a ++ later) 0 = s := by
    rw [State.reading, ← hpos, ← hhost, ← hsched]; rfl
  have hreach := reaches_handler_of_text hrest hrow hlen (host := rest) (sched := later) (k := 0)
  rwa [hstart, Nat.zero_add] at hreach

end Sys2Proof.Machine
end

section
/-! The float codec (30_encoding.md R99 to R102): the encoder's two bytes are the hundredths of the value, and decoding
them adds two roundings whose last places are far below a hundredth. -/

namespace Sys2Proof.Machine

/-! ### The encoder's hundredths (R101) -/

/-- `100 m` rounded to the nearest integer, halves up, for a magnitude in units of `2^-149`. -/
def hundredths (m : Nat) : Nat := (200 * m + 2 ^ 149) / 2 ^ 150

/-- The whole part's hundredths, and those of the fraction, which may carry. -/
theorem hundredths_eq (m : Nat) :
    hundredths m = 100 * (m / 2 ^ 149) + (2 * (100 * (m % 2 ^ 149)) + 2 ^ 149) / 2 ^ 150 ∧
      (2 * (100 * (m % 2 ^ 149)) + 2 ^ 149) / 2 ^ 150 ≤ 100 := by
  unfold hundredths
  omega

theorem f32Gt_zero_iff {v : F32} :
    f32Gt v f32_0 = true ↔ f32IsNaN v = false ∧ f32Val v = f32Mag v ∧ 0 < f32Mag v := by
  have hzero : f32IsNaN f32_0 = false ∧ f32Val f32_0 = 0 := by decide
  rw [f32Gt, f32Lt_iff, hzero.1, hzero.2, f32Val_eq_withSign]
  cases f32Sign v with
  | false => simp [withSign]
  | true => simp only [withSign, if_true]; omega

theorem f32Ge_256_false_iff {v : F32} (h : f32IsNaN v = false) : f32Ge v f32_256 = false ↔ f32Val v < 256 * 2 ^ 149 := by
  have hval : f32IsNaN f32_256 = false ∧ f32Val f32_256 = 256 * 2 ^ 149 := by decide
  simp [f32Ge, f32Le, h, hval]

theorem encFloat_not_positive {v : F32} (h : f32IsNaN v = true ∨ f32Gt v f32_0 = false) :
    encFloat v = (0x00#8, 0x00#8) := by
  rw [encFloat, if_pos (by simpa using h)]

theorem encFloat_ge_256 {v : F32} (h : f32Ge v f32_256 = true) : encFloat v = (0xFF#8, 0x63#8) := by
  have hval : f32Val f32_256 = 256 * 2 ^ 149 ∧ f32IsNaN f32_0 = false ∧ f32Val f32_0 = 0 := by decide
  obtain ⟨-, hnan, hge⟩ := f32Le_iff.mp h
  have hpos : f32Gt v f32_0 = true := f32Lt_iff.mpr ⟨hval.2.1, hnan, by omega⟩
  rw [encFloat, if_neg (by simp [hnan, hpos]), if_pos h]

/-- Below 256 the bytes are the hundredths' whole part and rest, saturated at 255.99. -/
theorem encFloat_positive {v : F32} (hpos : f32Gt v f32_0 = true) (hlt : f32Ge v f32_256 = false) :
    encFloat v = if hundredths (f32Mag v) < 25600 then
      (BitVec.ofNat 8 (hundredths (f32Mag v) / 100), BitVec.ofNat 8 (hundredths (f32Mag v) % 100))
      else (0xFF#8, 0x63#8) := by
  obtain ⟨hnan, hval, -⟩ := f32Gt_zero_iff.mp hpos
  have hbound : f32Mag v < 256 * 2 ^ 149 := by
    have := (f32Ge_256_false_iff hnan).mp hlt
    omega
  obtain ⟨hsplit, hcarry⟩ := hundredths_eq (f32Mag v)
  have hwhole : f32Mag v / 2 ^ 149 < 256 := by omega
  rw [encFloat, if_neg (by simp [hnan, hpos]), if_neg (by simp [hlt]), hsplit]
  dsimp only
  generalize f32Mag v / 2 ^ 149 = i at *
  generalize (2 * (100 * (f32Mag v % 2 ^ 149)) + 2 ^ 149) / 2 ^ 150 = f at *
  rcases hcarry.lt_or_eq with hf | rfl
  · have hdiv : (100 * i + f) / 100 = i ∧ (100 * i + f) % 100 = f := by omega
    rw [if_neg hf.ne, if_neg hf.ne, if_neg (by omega), if_pos (by omega), hdiv.1, hdiv.2]
  · have hdiv : (100 * i + 100) / 100 = i + 1 ∧ (100 * i + 100) % 100 = 0 := by omega
    rw [if_pos rfl, if_pos rfl, hdiv.1, hdiv.2]
    by_cases hi : i + 1 = 256
    · rw [if_pos hi, if_neg (by omega)]
    · rw [if_neg hi, if_pos (by omega)]

theorem encFloat_hundredths {v : F32} (hpos : f32Gt v f32_0 = true) (hlt : f32Ge v f32_256 = false)
    (hq : hundredths (f32Mag v) < 25600) :
    100 * (encFloat v).1.toNat + (encFloat v).2.toNat = hundredths (f32Mag v) ∧ (encFloat v).2.toNat < 100 := by
  rw [encFloat_positive hpos hlt, if_pos hq, BitVec.toNat_ofNat, BitVec.toNat_ofNat]
  omega

theorem encFloat_saturates {v : F32} (hpos : f32Gt v f32_0 = true) (hlt : f32Ge v f32_256 = false)
    (hq : 25600 ≤ hundredths (f32Mag v)) : encFloat v = (0xFF#8, 0x63#8) := by
  rw [encFloat_positive hpos hlt, if_neg (Nat.not_lt.mpr hq)]

/-- Settles O6: below 256 the bytes are the quotient and the rest of the hundredths by 100. -/
theorem encFloatRoundsHundredths : Obligations.EncFloatRoundsHundredths := fun _ =>
  ⟨encFloat_not_positive, encFloat_ge_256,
    fun hpos hlt => ⟨encFloat_hundredths hpos hlt, encFloat_saturates hpos hlt⟩⟩

/-! ### The error of one rounding (R15) -/

theorem roundPlace_le {n d k : Nat} (hd : 0 < d) (h : n < 2 ^ (k + 24) * d) : roundPlace n d ≤ k := by
  rcases roundPlace_eq_zero_or_le n d with hzero | hle
  · omega
  · have hlt := hle.trans_lt ((Nat.div_lt_iff_lt_mul hd).mpr h)
    have := (Nat.pow_lt_pow_iff_right (by decide)).mp hlt
    omega

/-- Below the largest values a result is finite and misses the exact one by at most half of the last place. -/
theorem f32Round_error {neg : Bool} {n d k : Nat} (hd : 0 < d) (hk : k ≤ 252) (h : n < 2 ^ (k + 24) * d) :
    f32Finite (f32Round neg n d) = true ∧ 2 * |(f32Mag (f32Round neg n d) * d : Int) - n| ≤ 2 ^ k * d := by
  have hfin : f32Finite (f32Round neg n d) = true := by
    rw [f32Finite_round_iff neg n hd]
    have hplace : k + 24 ≤ 23 + 253 := by omega
    have hpow : 2 ^ (k + 24) ≤ 2 ^ 23 * 2 ^ 253 := (pow_le_pow_right₀ one_le_two hplace).trans_eq (pow_add ..)
    have := Nat.mul_le_mul_right d hpow
    omega
  refine ⟨hfin, ?_⟩
  have hD : 0 < d <<< roundPlace n d := by rw [Nat.shiftLeft_eq]; positivity
  have hscale : ((f32Mag (f32Round neg n d) * d : Nat) : Int) = roundPlaces n d * (d <<< roundPlace n d : Nat) := by
    rw [(f32Mag_round hfin).1, Nat.shiftLeft_eq]; push_cast; ring
  calc 2 * |(f32Mag (f32Round neg n d) * d : Int) - n|
      = 2 * |(roundPlaces n d * (d <<< roundPlace n d : Nat) : Int) - n| := by rw [← hscale]; push_cast; rfl
    _ ≤ (d <<< roundPlace n d : Nat) := (roundHalfEven_error n hD).1
    _ ≤ 2 ^ k * d := by
      rw [Nat.shiftLeft_eq, mul_comm]
      exact_mod_cast Nat.mul_le_mul_right d (Nat.pow_le_pow_right (by decide) (roundPlace_le hd h))

/-- The same with the sign. -/
theorem f32Val_round_error {neg : Bool} {n d k : Nat} (hd : 0 < d) (hk : k ≤ 252) (h : n < 2 ^ (k + 24) * d) :
    2 * |f32Val (f32Round neg n d) * d - withSign neg n| ≤ 2 ^ k * d := by
  rw [f32Val_eq_withSign, f32Sign_round, withSign_mul_right, withSign_sub, abs_withSign]
  exact (f32Round_error hd hk h).2

/-- The sum of finite values, to half of the last place. -/
theorem f32Add_error {x y : F32} {k : Nat} (hx : f32Finite x = true) (hy : f32Finite y = true) (hk : k ≤ 252)
    (h : |f32Val x + f32Val y| < 2 ^ (k + 24)) :
    2 * |f32Val (f32Add x y) - (f32Val x + f32Val y)| ≤ 2 ^ k := by
  rw [f32Add_of_finite hx hy]
  split_ifs with h0
  · simp [h0]
  · have hn : (f32Val x + f32Val y).natAbs < 2 ^ (k + 24) * 1 := by
      zify
      simpa using h
    simpa [withSign_abs] using f32Val_round_error (neg := decide (f32Val x + f32Val y < 0)) one_pos hk hn

/-- A whole number of last places is not changed by rounding. -/
theorem roundHalfEven_mul (j : Nat) {D : Nat} (hD : 0 < D) : roundHalfEven (j * D) D = j := by
  simp [roundHalfEven, hD]

/-- An integer below `2^24` is converted exactly (R15). -/
theorem f32Mag_ofNat {n : Nat} (h : n < 2 ^ 24) :
    f32Finite (f32OfNat n) = true ∧ f32Mag (f32OfNat n) = n * 2 ^ 149 := by
  have hbound : n * 2 ^ 149 < 2 ^ (149 + 24) * 1 := by omega
  have hplace : roundPlace (n * 2 ^ 149) 1 ≤ 149 := roundPlace_le one_pos hbound
  have hfin : f32Finite (f32Round false (n * 2 ^ 149) 1) = true := (f32Round_error one_pos (by decide) hbound).1
  rw [f32OfNat, (f32Mag_round hfin).1, roundPlaces]
  generalize roundPlace (n * 2 ^ 149) 1 = p at hplace
  have hsplit : n * 2 ^ 149 = n * 2 ^ (149 - p) * 2 ^ p := by
    rw [mul_assoc, ← pow_add, Nat.sub_add_cancel hplace]
  refine ⟨hfin, ?_⟩
  rw [Nat.one_shiftLeft, hsplit, roundHalfEven_mul _ (by positivity)]

@[simp] theorem f32Sign_ofNat (n : Nat) : f32Sign (f32OfNat n) = false := f32Sign_round ..

/-! ### The round trip (R102) -/

theorem two_mul_abs_le_iff {a b : Int} : 2 * |a| ≤ b ↔ -b ≤ 2 * a ∧ 2 * a ≤ b := by
  rw [← abs_le, abs_mul, abs_two]

/-- The fraction of R99, to half of its last place. -/
theorem div_hundred_error {f : Nat} (hf : f < 100) :
    f32Finite (f32Div (f32OfNat f) f32_100) = true ∧
      |100 * f32Val (f32Div (f32OfNat f) f32_100) - f * 2 ^ 149| ≤ 100 * 2 ^ 124 := by
  obtain ⟨hfin, hmag⟩ := f32Mag_ofNat (n := f) (by omega)
  have hundred : f32Finite f32_100 = true ∧ f32Mag f32_100 = 100 * 2 ^ 149 ∧ f32Sign f32_100 = false := by decide
  obtain ⟨hfin100, hmag100, hsign100⟩ := hundred
  have hdiv : f32Div (f32OfNat f) f32_100 = f32Round false (f * 2 ^ 149 * 2 ^ 149) (100 * 2 ^ 149) := by
    rw [f32Div_of_finite hfin hfin100 (by rw [hmag100]; decide), hmag, hmag100, hsign100, f32Sign_ofNat]; rfl
  have hbound : f * 2 ^ 149 * 2 ^ 149 < 2 ^ (125 + 24) * (100 * 2 ^ 149) := by omega
  have herr := f32Val_round_error (neg := false) (by decide) (by decide) hbound
  rw [hdiv]
  refine ⟨(f32Round_error (by decide) (by decide) hbound).1, ?_⟩
  rw [withSign, if_neg (by decide), two_mul_abs_le_iff] at herr
  generalize f32Val (f32Round false (f * 2 ^ 149 * 2 ^ 149) (100 * 2 ^ 149)) = y at *
  rw [abs_le]
  omega

/-- A decoded value misses its hundredths only by the two roundings of R99. -/
theorem decFloat_error (i f : Byte) (hf : f.toNat < 100) :
    f32IsNaN (decFloat i f) = false ∧
      |100 * f32Val (decFloat i f) - (100 * i.toNat + f.toNat : Nat) * 2 ^ 149| ≤ 100 * (2 ^ 132 + 2 ^ 124) := by
  have hi := i.isLt
  obtain ⟨hifin, himag⟩ := f32Mag_ofNat (n := i.toNat) (by omega)
  obtain ⟨hxfin, hxerr⟩ := div_hundred_error hf
  refine ⟨f32Add_not_nan hifin hxfin, ?_⟩
  have hival : f32Val (f32OfNat i.toNat) = i.toNat * 2 ^ 149 := by
    rw [f32Val_eq_withSign, f32Sign_ofNat, himag]; rfl
  rw [abs_le] at hxerr
  have hsum : |f32Val (f32OfNat i.toNat) + f32Val (f32Div (f32OfNat f.toNat) f32_100)| < 2 ^ (133 + 24) := by
    rw [hival, abs_lt]; omega
  have herr := f32Add_error hifin hxfin (by decide) hsum
  rw [hival, two_mul_abs_le_iff] at herr
  rw [decFloat, abs_le]
  omega

/-- The encoder's hundredths miss the value by at most a half. -/
theorem encFloat_error {v : F32} (hge : f32Ge v f32_0 = true) (hlt : 1000 * f32Val v < 255995 * 2 ^ 149) :
    (encFloat v).2.toNat < 100 ∧
      |(100 * (encFloat v).1.toNat + (encFloat v).2.toNat : Nat) * 2 ^ 149 - 100 * f32Val v| ≤ 2 ^ 148 := by
  have hzero : f32Val f32_0 = 0 := by decide
  obtain ⟨hnan0, hnan, hnonneg⟩ := f32Le_iff.mp hge
  rw [hzero] at hnonneg
  cases hpos : f32Gt v f32_0 with
  | false =>
    have hle : f32Val v ≤ 0 := hzero ▸ (f32Lt_false_iff hnan0 hnan).mp hpos
    rw [encFloat_not_positive (.inr hpos), le_antisymm hle hnonneg]
    decide
  | true =>
    have hval := (f32Gt_zero_iff.mp hpos).2.1
    have hbelow : f32Ge v f32_256 = false := (f32Ge_256_false_iff hnan).mpr (by omega)
    have hq : hundredths (f32Mag v) < 25600 := by unfold hundredths; omega
    obtain ⟨henc, hlow⟩ := encFloat_hundredths hpos hbelow hq
    refine ⟨hlow, ?_⟩
    rw [henc, hval, abs_le]
    unfold hundredths
    omega

/-- Settles O7: the encoder is off by at most half a hundredth, and the decoder's roundings by far less than a tenth of
one. -/
theorem floatCodecRoundTripWithin : Obligations.FloatCodecRoundTripWithin := by
  refine ⟨by decide, by decide, by decide, by decide, fun v hge hlt => ?_⟩
  obtain ⟨hlow, henc⟩ := encFloat_error hge hlt
  obtain ⟨hnan, hdec⟩ := decFloat_error (encFloat v).1 (encFloat v).2 hlow
  refine ⟨hnan, ?_⟩
  generalize f32Val (decFloat (encFloat v).1 (encFloat v).2) = d at *
  generalize ((100 * (encFloat v).1.toNat + (encFloat v).2.toNat : Nat) * 2 ^ 149 : Int) = q at *
  calc 1000 * |d - f32Val v| = 10 * |(100 * d - q) + (q - 100 * f32Val v)| := by
        rw [sub_add_sub_cancel, ← mul_sub, abs_mul, Nat.abs_ofNat]; ring
    _ ≤ 10 * (|100 * d - q| + |q - 100 * f32Val v|) := by gcongr; exact abs_add_le ..
    _ ≤ 6 * 2 ^ 149 := by omega

end Sys2Proof.Machine
end

section
/-! The regulator's operations (40_regulator.md R121 to R136): what each check says, and the whole next state of every
operation in every case. -/

namespace Sys2Proof.Machine
open Sys2Proof.Claims

/-! ### The checks of a configuration (R121, R123) -/

theorem configured_iff {c : RegulatorConfig} :
    configured c = true ↔ c.pin ≠ .unassigned ∧ c.freq ≠ 0#32 ∧ c.channel ≠ .unassigned := by
  simp [configured, and_assoc]

/-- Between finite values `<=` is the order of the values. -/
theorem f32Le_iff_of_finite {x y : F32} (hx : f32Finite x = true) (hy : f32Finite y = true) :
    f32Le x y = true ↔ f32Val x ≤ f32Val y := by
  simp [f32Le_iff, f32Finite_not_nan hx, f32Finite_not_nan hy]

/-- Between finite values `<` is the order of the values. -/
theorem f32Lt_iff_of_finite {x y : F32} (hx : f32Finite x = true) (hy : f32Finite y = true) :
    f32Lt x y = true ↔ f32Val x < f32Val y := by
  simp [f32Lt_iff, f32Finite_not_nan hx, f32Finite_not_nan hy]

theorem f32_0_spec : f32Finite f32_0 = true ∧ f32Val f32_0 = 0 := by decide
theorem f32_1_spec : f32Finite f32_1 = true ∧ f32Val f32_1 = 2 ^ 149 := by decide
theorem f32_100_spec : f32Finite f32_100 = true ∧ f32Val f32_100 = 100 * 2 ^ 149 := by decide

theorem cfgWF_iff {c : RegulatorConfig} :
    cfgWF c = true ↔
      (f32Finite c.vref = true ∧ f32Finite c.divider = true ∧ f32Finite c.minDuty = true ∧ f32Finite c.maxDuty = true ∧
        f32Finite c.slowStep = true ∧ f32Finite c.fastStep = true ∧ f32Finite c.farTol = true ∧
        f32Finite c.tol = true) ∧
      0 < f32Val c.vref ∧ 0 < f32Val c.divider ∧ 0 ≤ f32Val c.minDuty ∧ f32Val c.minDuty ≤ f32Val c.maxDuty ∧
      f32Val c.maxDuty ≤ 100 * 2 ^ 149 ∧ 0 ≤ f32Val c.slowStep ∧ 0 ≤ f32Val c.fastStep ∧
      0 ≤ f32Val c.tol ∧ f32Val c.tol ≤ 2 ^ 149 ∧ 0 ≤ f32Val c.farTol ∧ f32Val c.farTol ≤ 2 ^ 149 := by
  obtain ⟨fin0, val0⟩ := f32_0_spec
  obtain ⟨fin1, val1⟩ := f32_1_spec
  obtain ⟨fin100, val100⟩ := f32_100_spec
  simp only [cfgWF, f32Gt, f32Ge, Bool.and_eq_true, and_assoc]
  refine and_congr_right fun vref => and_congr_right fun divider => and_congr_right fun minDuty =>
    and_congr_right fun maxDuty => and_congr_right fun slowStep => and_congr_right fun fastStep =>
    and_congr_right fun farTol => and_congr_right fun tol => ?_
  simp only [f32Lt_iff_of_finite, f32Le_iff_of_finite, *]

/-- Settles O10: between finite values the model's comparisons are those of the values. -/
theorem wellFormedAndConfigured : Obligations.WellFormedAndConfigured := fun _ => ⟨cfgWF_iff, configured_iff⟩

/-! ### The operations of context A (R126 to R129, R131 to R136) -/

theorem exec_regConfigure {r : Rail} {cfg : RegulatorConfig} {s : State} (h : CanRun .a s) :
    exec (.regConfigure r cfg) s = .next ((opRegConfigure r cfg s).commit .a) := runShared_onlyA h

theorem exec_regStart {r : Rail} {s : State} (h : CanRun .a s) :
    exec (.regStart r) s = .next ((opRegStart r s).commit .a) := runShared_onlyA h

theorem exec_regStop {r : Rail} {s : State} (h : CanRun .a s) :
    exec (.regStop r) s = .next ((opRegStop r s).commit .a) := runShared_onlyA h

theorem exec_regSetTarget {r : Rail} {v : F32} {s : State} (h : CanRun .a s) :
    exec (.regSetTarget r v) s = .next ((opRegSetTarget r v s).commit .a) := runShared_onlyA h

theorem stopsOnConfigure_iff {running : Bool} {old new : RegulatorConfig} :
    stopsOnConfigure running old new = true ↔
      running = true ∧ (new.pin ≠ old.pin ∨ f32Eq new.vref old.vref = false) := by
  simp [stopsOnConfigure]

/-- Of two writes of one register the last one counts. -/
theorem State.setReg_setReg (s : State) (r : Rail) (g g' : RegState) : (s.setReg r g).setReg r g' = s.setReg r g' := by
  cases r <;> rfl

theorem State.disarm_eq (s : State) (r : Rail) :
    s.disarm r = (s.setPwm r { s.pwm r with duty := (s.reg r).cfg.minDuty, armed := false }).setReg r
      { s.reg r with duty := (s.reg r).cfg.minDuty, running := false } := rfl

section
variable {r : Rail} {cfg : RegulatorConfig} {s : State}

theorem opRegConfigure_illFormed (hwf : cfgWF cfg = false) : opRegConfigure r cfg s = .refuse s .illFormedConfig := by
  simp [opRegConfigure, hwf]

theorem opRegConfigure_shared (hwf : cfgWF cfg = true)
    (hshared : cfg.pin ≠ .unassigned ∧ cfg.pin = (s.reg r.other).cfg.pin) :
    opRegConfigure r cfg s = .refuse s .sharedPwmPin := by
  rw [opRegConfigure, if_neg (by simp [hwf]), if_pos hshared]

/-- An accepted configuration is written after the stop, if there is one (R126). -/
theorem opRegConfigure_accepted (hwf : cfgWF cfg = true)
    (hshared : ¬(cfg.pin ≠ .unassigned ∧ cfg.pin = (s.reg r.other).cfg.pin)) :
    opRegConfigure r cfg s =
      if (s.reg r).running = true ∧ (cfg.pin ≠ (s.reg r).cfg.pin ∨ f32Eq cfg.vref (s.reg r).cfg.vref = false) then
        .ret ((s.disarm r).setReg r { (s.disarm r).reg r with cfg := cfg }) .nothing
      else .ret (s.setReg r { s.reg r with cfg := cfg }) .nothing := by
  rw [opRegConfigure, if_neg (by simp [hwf]), if_neg hshared]
  simp only [stopsOnConfigure_iff]
  split_ifs <;> rfl

end

/-- Settles O11: the two refusals, then the new configuration on the state after the stop or as it was. -/
theorem regConfigureResult : Obligations.RegConfigureResult := by
  intro r cfg s hcan shared g stops
  rw [exec_regConfigure hcan]
  refine ⟨fun hwf => ?_, fun hwf hshared => ?_, fun hwf hshared hstops => ?_, fun hwf hshared hstops => ?_⟩
  · rw [opRegConfigure_illFormed hwf, OpOut.commit_refuse]
  · rw [opRegConfigure_shared hwf hshared, OpOut.commit_refuse]
  · rw [opRegConfigure_accepted hwf hshared, if_neg hstops, OpOut.commit_ret]
  · rw [opRegConfigure_accepted hwf hshared, if_pos hstops, OpOut.commit_ret, State.reg_disarm_self, State.disarm_eq,
      State.setReg_setReg]

theorem opRegStart_unconfigured {r : Rail} {s : State} (h : configured (s.reg r).cfg = false) :
    opRegStart r s = .fail s := by
  simp [opRegStart, h]

theorem opRegStart_configured {r : Rail} {s : State} (h : configured (s.reg r).cfg = true) :
    opRegStart r s = .ret
      ((s.setPwm r ⟨(s.reg r).cfg.pin, (s.reg r).cfg.freq, (s.reg r).cfg.minDuty, true⟩).setReg r
        { s.reg r with duty := (s.reg r).cfg.minDuty, running := true }) (.bool true) := by
  simp [opRegStart, h]

theorem opRegStop_unconfigured {r : Rail} {s : State} (h : configured (s.reg r).cfg = false) :
    opRegStop r s = .fail s := by
  simp [opRegStop, h]

theorem opRegStop_configured {r : Rail} {s : State} (h : configured (s.reg r).cfg = true) :
    opRegStop r s = .ret (s.disarm r) (.bool true) := by
  simp [opRegStop, h]

/-- Settles O12: both operations ask first whether the regulator is configured. -/
theorem regStartArmsRegStopDisarms : Obligations.RegStartArmsRegStopDisarms := by
  intro r s hcan c ok
  rw [exec_regStart hcan, exec_regStop hcan]
  refine ⟨fun hok => ?_, fun hok => ?_⟩
  · have unconfigured : configured c = false := Bool.eq_false_iff.mpr (mt configured_iff.mp hok)
    rw [opRegStart_unconfigured unconfigured, opRegStop_unconfigured unconfigured, OpOut.commit_fail]
    exact ⟨rfl, rfl⟩
  · have hconf : configured c = true := configured_iff.mpr hok
    rw [opRegStart_configured hconf, opRegStop_configured hconf]
    exact ⟨rfl, rfl⟩

/-- A target that is no NaN is clamped at zero and written unless it equals the old one (R129). -/
theorem opRegSetTarget_not_nan {r : Rail} {v : F32} {s : State} (hnan : f32IsNaN v = false) :
    opRegSetTarget r v s =
      if f32Eq (if f32Lt v f32_0 = true then f32_0 else v) (s.reg r).target = true then .ret s .nothing
      else .ret (s.setReg r { s.reg r with target := if f32Lt v f32_0 = true then f32_0 else v }) .nothing :=
  if_neg (Bool.eq_false_iff.mp hnan)

/-- Settles O13: the operand is checked, clamped at zero and compared with the target. -/
theorem regSetTargetClamps : Obligations.RegSetTargetClamps := by
  intro r v s hcan v'
  rw [exec_regSetTarget hcan]
  refine ⟨fun hnan => ?_, fun hnan heq => ?_, fun hnan heq => ?_⟩
  · rw [opRegSetTarget, if_pos hnan, OpOut.commit_refuse]
  · rw [opRegSetTarget_not_nan hnan, if_pos heq, OpOut.commit_ret]
  · rw [opRegSetTarget_not_nan hnan, if_neg (Bool.eq_false_iff.mp heq), OpOut.commit_ret]

/-- An operation of context A that only reads answers what it read and writes nothing else. -/
theorem runShared_read {read : State → Result} {s : State} (h : CanRun .a s) :
    runShared .onlyA (fun s => .ret s (read s)) s = .next (s.setResult .a (read s)) := runShared_onlyA h

/-- Settles O17: the setter is one write, and each other operation is one read. -/
theorem accessorsReadAndOffsetSetterWrites : Obligations.AccessorsReadAndOffsetSetterWrites := by
  intro r v s hcan
  have setter : exec (.regSetCal r v) s = .next ((opRegSetCal r v s).commit .a) := runShared_onlyA hcan
  exact ⟨setter, runShared_read (read := fun s => .f32 (s.reg r).cal) hcan,
    runShared_read (read := fun s => .f32 (s.reg r).target) hcan,
    runShared_read (read := fun s => .f32 (s.reg r).measured) hcan,
    runShared_read (read := fun s => .f32 (s.reg r).duty) hcan,
    runShared_read (read := fun s => .bool (s.reg r).running) hcan,
    runShared_read (read := fun s => .bool (s.enabled r)) hcan,
    runShared_read (read := fun s => .bool (s.regVdd.running && s.regVpp.running)) hcan⟩

/-! ### The adjust of context B (R122, R124, R125, R130) -/

theorem f32Lt_nan_left {x : F32} (h : f32IsNaN x = true) (y : F32) : f32Lt x y = false := by simp [f32Lt, h]

theorem f32Gt_nan_left {x : F32} (h : f32IsNaN x = true) (y : F32) : f32Gt x y = false := by simp [f32Gt, f32Lt, h]

/-- Settles O16: the branches of the selection in their order; a NaN fails every comparison. -/
theorem stepSelectionInOrder : Obligations.StepSelectionInOrder := by
  intro a d0 w c
  unfold stepDuty
  refine ⟨fun h => if_pos h, fun h1 h2 => ?_, fun h1 h2 h3 => ?_, fun h1 h2 h3 h4 => ?_, fun h1 h2 h3 h4 => ?_,
    fun hnan => ?_⟩
  · simp [h1, h2]
  · simp [h1, h2, h3]
  · simp [h1, h2, h3, h4]
  · simp [h1, h2, h3, h4]
  · simp [f32Lt_nan_left hnan, f32Gt_nan_left hnan]

/-- The sum of the next codes, all of them listed (R124). -/
theorem Env.sampleSum_listed (n : Nat) (e : Env) (h : n ≤ e.adc.length) :
    (Env.sampleSum n e).1 = ((e.adc.take n).map BitVec.toNat).sum := by
  induction n generalizing e with
  | zero => rfl
  | succ n ih =>
    obtain ⟨code, codes, hadc⟩ := List.exists_cons_of_length_pos (Nat.zero_lt_of_lt h)
    have hrest : e.afterSample.adc = codes := by rw [Env.afterSample, hadc, List.tail_cons]
    have hlength : n ≤ codes.length := by simpa [hadc] using h
    rw [Env.sampleSum, ih e.afterSample (by rwa [hrest]), hrest, Env.nextCode, hadc]
    rfl

/-- Settles O15: the sum of the listed codes, converted in the order of R124. -/
theorem uncalIsScaledAverage : Obligations.UncalIsScaledAverage := by
  intro r s henough n sum
  rw [State.uncal, Env.sampleSum_listed _ _ henough, uncalOf]

/-- The state after the samples, written out: codes and indices are used, nothing else changes (R28, R70). -/
theorem State.afterUncal_eq (s : State) :
    s.afterUncal = { s with env := { s.env with adc := s.env.adc.drop s.build.adcAvgSamples
                                                adcTick := s.env.adcTick + s.build.adcAvgSamples } } := by
  rw [State.afterUncal, Env.sampleSum_env]

/-- An operation of B on shared state that may run commits its outcome. -/
theorem runShared_onlyB {body : State → OpOut} {s : State} (h : CanRun .b s) :
    runShared .onlyB body s = .next ((body s).commit .b) := by
  obtain ⟨hissuer, hmutex⟩ := h
  rw [runShared_run, hissuer]
  · simp [hissuer]
  · rwa [hissuer, State.mayTake_iff]

theorem exec_regAdjust {r : Rail} {s : State} (h : CanRun .b s) :
    exec (.regAdjust r) s = .next ((opRegAdjust r s).commit .b) := runShared_onlyB h

theorem exec_regAdjust_contextA {r : Rail} {s : State} (h : s.issuer = .a) :
    exec (.regAdjust r) s = .next (s.refuse .contextViolation) := by
  have hexec : exec (.regAdjust r) s = runShared .onlyB (opRegAdjust r) s := rfl
  simp [hexec, runShared, h]

/-- The voltage an adjust measures (R130 step (1)). -/
def State.actual (s : State) (r : Rail) : F32 := f32Add (s.uncal r) (s.reg r).cal

/-- The clamped duty an adjust computes (R130 steps (3) and (4)). -/
def State.nextDuty (s : State) (r : Rail) : F32 :=
  newDuty (s.actual r) (s.reg r).target (s.reg r).duty (s.reg r).cfg

section
variable {r : Rail} {s : State}

theorem opRegAdjust_stopped (h : (s.reg r).running = false) :
    opRegAdjust r s = .ret (s.setReg r { s.reg r with measured := f32_0, duty := f32_0 }) .nothing := by
  simp [opRegAdjust, h]

theorem opRegAdjust_unassigned (h : (s.reg r).running = true) (hchan : (s.reg r).cfg.channel = .unassigned) :
    opRegAdjust r s = .refuse s .unassignedChannel := by
  simp [opRegAdjust, h, withUncal_unassigned hchan]

/-- An adjust whose duty is numerically unchanged writes the measured voltage only (R130 step (5)). -/
theorem exec_regAdjust_hold (hcan : CanRun .b s) (running : (s.reg r).running = true)
    (hchan : (s.reg r).cfg.channel ≠ .unassigned) (heq : f32Eq (s.nextDuty r) (s.reg r).duty = true) :
    exec (.regAdjust r) s =
      .next ((s.afterUncal.setReg r { s.reg r with measured := s.actual r }).setResult .b .nothing) := by
  have hold : s.afterUncal.applyAdjust r (s.actual r) = s.afterUncal.setReg r { s.reg r with measured := s.actual r } :=
    if_pos heq
  rw [exec_regAdjust_running hcan running hchan, ← hold, State.actual]

/-- An adjust whose duty changes writes it to the register and to the output (R130 step (5)). -/
theorem exec_regAdjust_move (hcan : CanRun .b s) (running : (s.reg r).running = true)
    (hchan : (s.reg r).cfg.channel ≠ .unassigned) (heq : f32Eq (s.nextDuty r) (s.reg r).duty = false) :
    exec (.regAdjust r) s =
      .next (((s.afterUncal.setReg r { s.reg r with measured := s.actual r, duty := s.nextDuty r }).setPwm r
        { s.pwm r with duty := s.nextDuty r }).setResult .b .nothing) := by
  have move : s.afterUncal.applyAdjust r (s.actual r) =
      (s.afterUncal.setReg r { s.reg r with measured := s.actual r, duty := s.nextDuty r }).setPwm r
        { s.pwm r with duty := s.nextDuty r } := if_neg (Bool.eq_false_iff.mp heq)
  rw [exec_regAdjust_running hcan running hchan, ← move, State.actual]

end

/-- Settles O14: stopped, without a channel, or sampled and then held or moved. -/
theorem regAdjustResult : Obligations.RegAdjustResult := by
  refine fun r s => ⟨exec_regAdjust_contextA, fun hcan => ⟨fun stopped => ?_, fun running hchan => ?_,
    fun running hchan heq => ?_, fun running hchan heq => ?_⟩⟩
  · rw [exec_regAdjust hcan, opRegAdjust_stopped stopped, OpOut.commit_ret]
  · rw [exec_regAdjust hcan, opRegAdjust_unassigned running hchan, OpOut.commit_refuse]
  · rw [← State.afterUncal_eq]
    exact exec_regAdjust_hold hcan running hchan heq
  · rw [← State.afterUncal_eq]
    exact exec_regAdjust_move hcan running hchan heq

end Sys2Proof.Machine
end

section
/-! What one rounding cannot cross (00_scope.md R15): a sum or a product that is exactly at most, or at least, a finite
value is so after the rounding too. -/

namespace Sys2Proof.Machine

theorem f32Mag_le_of_finite {z : F32} (h : f32Finite z = true) : f32Mag z ≤ (2 ^ 24 - 1) * 2 ^ 253 := by
  have hlt := f32Mag_lt_of_finite h
  rw [Nat.shiftLeft_eq] at hlt
  rcases f32Mag_places_or_lt z 253 with ⟨j, hj⟩ | ⟨-, hsmall⟩ <;> omega

/-- A finite value that is at least the exact quotient is at least the rounded one. -/
theorem f32Mag_round_le {neg : Bool} {n d : Nat} {z : F32} (hd : 0 < d) (hz : f32Finite z = true)
    (h : n ≤ f32Mag z * d) : f32Mag (f32Round neg n d) ≤ f32Mag z := by
  have hfin : f32Finite (f32Round neg n d) = true := by
    have := Nat.mul_le_mul_right d (f32Mag_le_of_finite hz)
    rw [f32Finite_round_iff neg n hd]
    omega
  have near := (f32Round_nearest hd hfin z).1
  by_contra hgt
  have hmul : f32Mag z * d < f32Mag (f32Round neg n d) * d := Nat.mul_lt_mul_of_pos_right (not_le.mp hgt) hd
  zify at h hmul
  rw [abs_of_nonneg (by omega), abs_of_nonneg (by omega)] at near
  omega

/-- A finite value that is at most the exact quotient is at most the rounded one. -/
theorem le_f32Mag_round {neg : Bool} {n d : Nat} {z : F32} (hd : 0 < d) (hz : f32Finite z = true)
    (h : f32Mag z * d ≤ n) : f32Mag z ≤ f32Mag (f32Round neg n d) := by
  rcases f32_cases (f32Round neg n d) with hfin | hinf | hnan
  · have near := (f32Round_nearest hd hfin z).1
    by_contra hlt
    have hmul : f32Mag (f32Round neg n d) * d < f32Mag z * d := Nat.mul_lt_mul_of_pos_right (not_le.mp hlt) hd
    zify at h hmul
    rw [abs_of_nonpos (by omega), abs_of_nonpos (by omega)] at near
    omega
  · rw [f32Mag_of_inf hinf]
    exact (f32Mag_lt_of_finite hz).le
  · simp at hnan

theorem f32Val_le_mag (x : F32) : f32Val x ≤ f32Mag x := by
  unfold f32Val
  split <;> omega

theorem f32Val_of_nonneg {x : F32} (h : 0 ≤ f32Val x) : f32Val x = f32Mag x := by
  unfold f32Val at *
  split <;> simp_all

/-- Two factors that are not negative differ in the sign bit only when one of them is a zero. -/
theorem f32Mag_mul_eq_zero {x y : F32} (hx : 0 ≤ f32Val x) (hy : 0 ≤ f32Val y) (hsign : (f32Sign x != f32Sign y) = true) :
    f32Mag x * f32Mag y = 0 := by
  have hprod : 0 ≤ f32Val x * f32Val y := mul_nonneg hx hy
  rw [f32Val_eq_withSign x, f32Val_eq_withSign y, withSign_mul, hsign, withSign, if_pos rfl] at hprod
  have : (f32Mag x * f32Mag y : Int) ≤ 0 := by omega
  exact Nat.le_zero.mp (by exact_mod_cast this)

/-! ### Sums and differences -/

section
variable {x y z : F32} (hx : f32Finite x = true) (hy : f32Finite y = true) (hz : f32Finite z = true)
  (h0 : 0 ≤ f32Val z)
include hx hy hz h0

theorem f32Add_le (h : f32Val x + f32Val y ≤ f32Val z) : f32Le (f32Add x y) z = true := by
  refine f32Le_iff.mpr ⟨f32Add_not_nan hx hy, f32Finite_not_nan hz, ?_⟩
  rw [f32Add_of_finite hx hy]
  rcases lt_trichotomy (f32Val x + f32Val y) 0 with hneg | hzero | hpos
  · rw [if_neg hneg.ne, f32Val_eq_withSign, f32Sign_round, withSign, if_pos (decide_eq_true hneg)]
    omega
  · rwa [if_pos hzero, f32Val_zero]
  · rw [if_neg hpos.ne', decide_eq_false hpos.not_gt]
    have hmag := f32Val_of_nonneg h0
    have hround : f32Mag (f32Round false (f32Val x + f32Val y).natAbs 1) ≤ f32Mag z :=
      f32Mag_round_le one_pos hz (by omega)
    have := f32Val_le_mag (f32Round false (f32Val x + f32Val y).natAbs 1)
    omega

theorem le_f32Add (h : f32Val z ≤ f32Val x + f32Val y) : f32Le z (f32Add x y) = true := by
  refine f32Le_iff.mpr ⟨f32Finite_not_nan hz, f32Add_not_nan hx hy, ?_⟩
  rw [f32Add_of_finite hx hy]
  rcases (h0.trans h).eq_or_lt with hzero | hpos
  · rw [if_pos hzero.symm, f32Val_zero]
    omega
  · rw [if_neg hpos.ne', decide_eq_false hpos.not_gt, f32Val_eq_withSign (f32Round _ _ _), f32Sign_round, withSign,
      if_neg (by decide)]
    have hmag := f32Val_of_nonneg h0
    have hround : f32Mag z ≤ f32Mag (f32Round false (f32Val x + f32Val y).natAbs 1) :=
      le_f32Mag_round one_pos hz (by omega)
    omega

theorem f32Sub_le (h : f32Val x - f32Val y ≤ f32Val z) : f32Le (f32Sub x y) z = true := by
  rw [f32Sub_of_finite hx hy]
  exact f32Add_le hx (by simpa using hy) hz h0 (by simpa [← sub_eq_add_neg] using h)

theorem le_f32Sub (h : f32Val z ≤ f32Val x - f32Val y) : f32Le z (f32Sub x y) = true := by
  rw [f32Sub_of_finite hx hy]
  exact le_f32Add hx (by simpa using hy) hz h0 (by simpa [← sub_eq_add_neg] using h)

end

/-! ### Products of nonnegative values -/

theorem f32Le_zero_iff {x : F32} : f32Le f32_0 x = true ↔ f32IsNaN x = false ∧ 0 ≤ f32Val x := by
  obtain ⟨fin0, val0⟩ := f32_0_spec
  simp [f32Le_iff, f32Finite_not_nan fin0, val0]

theorem f32Sign_of_pos {y : F32} (h : 0 < f32Val y) : f32Sign y = false := by
  unfold f32Val at h
  split at h
  · omega
  · simp_all

section
variable {x y : F32} (hy : f32Finite y = true) (hy0 : 0 ≤ f32Val y)
include hy hy0

theorem f32Mul_nonneg_of_finite (hx : f32Finite x = true) (hx0 : 0 ≤ f32Val x) : f32Le f32_0 (f32Mul x y) = true := by
  rw [f32Le_zero_iff, f32Mul_of_finite hx hy, f32Val_eq_withSign, f32Sign_round, withSign]
  refine ⟨f32IsNaN_round .., ?_⟩
  split_ifs with hsign
  · have hround : f32Mag (f32Round (f32Sign x != f32Sign y) (f32Mag x * f32Mag y) (2 ^ 149)) ≤ f32Mag f32_0 :=
      f32Mag_round_le (by decide) f32_0_spec.1 (by simp [f32Mag_mul_eq_zero hx0 hy0 hsign])
    have hzero : f32Mag f32_0 = 0 := by decide
    omega
  · omega

/-- An infinity times zero is a NaN, times a positive value an infinity again. -/
theorem f32Mul_of_inf (hx : f32IsInf x = true) (hx0 : f32Le f32_0 x = true) :
    (f32Val y = 0 ∧ f32IsNaN (f32Mul x y) = true) ∨
      (f32IsNaN (f32Mul x y) = false ∧ f32Val (f32Mul x y) = f32Val x) := by
  obtain ⟨hnan, hnonneg⟩ := f32Le_zero_iff.mp hx0
  have hmag := f32Mag_of_inf hx
  have hmul : f32Mul x y = if f32Mag y = 0 then f32Nan .mul x y else f32Inf (f32Sign x != f32Sign y) := by
    simp [f32Mul, hnan, f32Finite_not_nan hy, hx, hmag]
  have hval := f32Val_of_nonneg hy0
  rw [hmul]
  split_ifs with hzero
  · exact .inl ⟨by omega, f32IsNaN_nan ..⟩
  · have hval' := f32Val_of_nonneg hnonneg
    have hpos : 0 < f32Mag x := by rw [hmag]; decide
    have hinf : f32Val (f32Inf false) = (2 ^ 23 <<< 254 : Nat) := by decide
    rw [f32Sign_of_pos (y := x) (by omega), f32Sign_of_pos (y := y) (by omega), bne_self_eq_false, hval', hmag]
    exact .inr ⟨f32IsNaN_inf _, hinf⟩

/-- A factor at most 1 does not raise a nonnegative value, unless the product is a NaN. -/
theorem f32Mul_le_self (hx : f32Le f32_0 x = true) (hy1 : f32Val y ≤ 2 ^ 149) (hnan : f32IsNaN (f32Mul x y) = false) :
    f32Le f32_0 (f32Mul x y) = true ∧ f32Le (f32Mul x y) x = true := by
  obtain ⟨hxnan, hx0⟩ := f32Le_zero_iff.mp hx
  rcases f32_cases x with hfin | hinf | hnan'
  · have hmag := f32Val_of_nonneg hx0
    have hmagy := f32Val_of_nonneg hy0
    have hround : f32Mag (f32Round (f32Sign x != f32Sign y) (f32Mag x * f32Mag y) (2 ^ 149)) ≤ f32Mag x :=
      f32Mag_round_le (by decide) hfin (Nat.mul_le_mul_left _ (by omega))
    rw [← f32Mul_of_finite hfin hy] at hround
    have := f32Val_le_mag (f32Mul x y)
    exact ⟨f32Mul_nonneg_of_finite hy hy0 hfin hx0, f32Le_iff.mpr ⟨hnan, hxnan, by omega⟩⟩
  · obtain ⟨-, hmul⟩ | ⟨-, hval⟩ := f32Mul_of_inf hy hy0 hinf hx
    · rw [hmul] at hnan
      cases hnan
    · exact ⟨f32Le_zero_iff.mpr ⟨hnan, by omega⟩, f32Le_iff.mpr ⟨hnan, hxnan, by omega⟩⟩
  · rw [hnan'] at hxnan
    cases hxnan

/-- A factor at least 1 does not lower a nonnegative value. -/
theorem le_f32Mul_self (hx : f32Le f32_0 x = true) (hy1 : 2 ^ 149 ≤ f32Val y) : f32Le x (f32Mul x y) = true := by
  obtain ⟨hxnan, hx0⟩ := f32Le_zero_iff.mp hx
  rcases f32_cases x with hfin | hinf | hnan'
  · have hmag := f32Val_of_nonneg hx0
    have hmagy := f32Val_of_nonneg hy0
    obtain ⟨hnan, hmul0⟩ := f32Le_zero_iff.mp (f32Mul_nonneg_of_finite hy hy0 hfin hx0)
    have hmagmul := f32Val_of_nonneg hmul0
    have hround : f32Mag x ≤ f32Mag (f32Round (f32Sign x != f32Sign y) (f32Mag x * f32Mag y) (2 ^ 149)) :=
      le_f32Mag_round (by decide) hfin (Nat.mul_le_mul_left _ (by omega))
    rw [← f32Mul_of_finite hfin hy] at hround
    exact f32Le_iff.mpr ⟨hxnan, hnan, by omega⟩
  · obtain ⟨hzero, -⟩ | ⟨hnan, hval⟩ := f32Mul_of_inf hy hy0 hinf hx
    · omega
    · exact f32Le_iff.mpr ⟨hxnan, hnan, by omega⟩
  · rw [hnan'] at hxnan
    cases hxnan

end

end Sys2Proof.Machine
end

section
/-! What an adjust does to the duty (40_regulator.md R122, R125, R130, R137 to R139): the bands lie in order around a
target that is not negative, so the step goes toward the target; the clamp keeps it on that side of the old duty. -/

namespace Sys2Proof.Machine
open Sys2Proof.Claims

/-! ### Order and clamp -/

theorem f32Le_trans {x y z : F32} (h1 : f32Le x y = true) (h2 : f32Le y z = true) : f32Le x z = true := by
  obtain ⟨hx, -, hxy⟩ := f32Le_iff.mp h1
  obtain ⟨-, hz, hyz⟩ := f32Le_iff.mp h2
  exact f32Le_iff.mpr ⟨hx, hz, hxy.trans hyz⟩

theorem f32Le_of_lt {x y : F32} (h : f32Lt x y = true) : f32Le x y = true := by
  obtain ⟨hx, hy, hxy⟩ := f32Lt_iff.mp h
  exact f32Le_iff.mpr ⟨hx, hy, hxy.le⟩

theorem f32Lt_of_lt_of_le {x y z : F32} (h1 : f32Lt x y = true) (h2 : f32Le y z = true) : f32Lt x z = true := by
  obtain ⟨hx, -, hxy⟩ := f32Lt_iff.mp h1
  obtain ⟨-, hz, hyz⟩ := f32Le_iff.mp h2
  exact f32Lt_iff.mpr ⟨hx, hz, hxy.trans_le hyz⟩

theorem f32Lt_of_le_of_lt {x y z : F32} (h1 : f32Le x y = true) (h2 : f32Lt y z = true) : f32Lt x z = true := by
  obtain ⟨hx, -, hxy⟩ := f32Le_iff.mp h1
  obtain ⟨-, hz, hyz⟩ := f32Lt_iff.mp h2
  exact f32Lt_iff.mpr ⟨hx, hz, hxy.trans_lt hyz⟩

theorem f32Lt_false_of_le {x y : F32} (h : f32Le y x = true) : f32Lt x y = false := by
  obtain ⟨hy, hx, hle⟩ := f32Le_iff.mp h
  exact (f32Lt_false_iff hx hy).mpr hle

theorem le_f32Clamp {d x lo hi : F32} (hx : f32Le d x = true) (hhi : f32Le d hi = true) :
    f32Le d (f32Clamp x lo hi) = true := by
  unfold f32Clamp f32Min f32Max f32Gt
  split_ifs with hlow
  · exact hhi
  · exact f32Le_trans hx (f32Le_of_lt hlow)
  · exact hhi
  · exact hx

theorem f32Clamp_le {d x lo hi : F32} (hx : f32Le x d = true) (hlo : f32Le lo d = true) :
    f32Le (f32Clamp x lo hi) d = true := by
  unfold f32Clamp f32Min f32Max f32Gt
  split_ifs with hlow hhigh hhigh
  · exact f32Le_trans (f32Le_of_lt hhigh) hlo
  · exact hlo
  · exact f32Le_trans (f32Le_of_lt hhigh) hx
  · exact hx

/-! ### The bands (R122) -/

/-- `1 - t` for a tolerance `t`. -/
theorem one_sub_tolerance {t : F32} (hfin : f32Finite t = true) (h0 : 0 ≤ f32Val t) (h1 : f32Val t ≤ 2 ^ 149) :
    f32Finite (f32Sub f32_1 t) = true ∧ 0 ≤ f32Val (f32Sub f32_1 t) ∧ f32Val (f32Sub f32_1 t) ≤ 2 ^ 149 := by
  obtain ⟨fin0, val0⟩ := f32_0_spec
  obtain ⟨fin1, val1⟩ := f32_1_spec
  have hge : f32Le f32_0 (f32Sub f32_1 t) = true := le_f32Sub fin1 hfin fin0 val0.ge (by omega)
  have hle : f32Le (f32Sub f32_1 t) f32_1 = true := f32Sub_le fin1 hfin fin1 (by omega) (by omega)
  obtain ⟨-, -, hval⟩ := f32Le_iff.mp hle
  exact ⟨f32Finite_of_between fin0 fin1 hge hle, (f32Le_zero_iff.mp hge).2, by omega⟩

/-- `1 + t` for a tolerance `t`. -/
theorem one_add_tolerance {t : F32} (hfin : f32Finite t = true) (h0 : 0 ≤ f32Val t) (h1 : f32Val t ≤ 2 ^ 149) :
    f32Finite (f32Add f32_1 t) = true ∧ 2 ^ 149 ≤ f32Val (f32Add f32_1 t) := by
  obtain ⟨fin1, val1⟩ := f32_1_spec
  obtain ⟨fin100, val100⟩ := f32_100_spec
  have hge : f32Le f32_1 (f32Add f32_1 t) = true := le_f32Add fin1 hfin fin1 (by omega) (by omega)
  have hle : f32Le (f32Add f32_1 t) f32_100 = true := f32Add_le fin1 hfin fin100 (by omega) (by omega)
  obtain ⟨-, -, hval⟩ := f32Le_iff.mp hge
  exact ⟨f32Finite_of_between fin1 fin100 hge hle, by omega⟩

/-- The factors of a product that is no NaN are no NaN. -/
theorem f32Mul_left_not_nan {x y : F32} (h : f32IsNaN (f32Mul x y) = false) : f32IsNaN x = false := by
  refine Bool.eq_false_iff.mpr fun hx => ?_
  simp [f32Mul, hx] at h

section
variable {c : RegulatorConfig} {t a : F32} (hwf : cfgWF c = true) (ht : f32Ge t f32_0 = true)
include hwf ht

/-- The lower bound, unless it is a NaN, lies between 0 and the target; the upper one is at least the target. -/
theorem bandsOf_around_target :
    (f32IsNaN (bandsOf t c).tMin = false →
      f32Le f32_0 (bandsOf t c).tMin = true ∧ f32Le (bandsOf t c).tMin t = true) ∧
    f32Le t (bandsOf t c).tMax = true := by
  obtain ⟨⟨-, -, -, -, -, -, -, fin⟩, -, -, -, -, -, -, -, h0, h1, -, -⟩ := cfgWF_iff.mp hwf
  obtain ⟨subFin, sub0, sub1⟩ := one_sub_tolerance fin h0 h1
  obtain ⟨addFin, add1⟩ := one_add_tolerance fin h0 h1
  exact ⟨f32Mul_le_self subFin sub0 ht sub1, le_f32Mul_self addFin (by omega) ht add1⟩

/-- Below the far band is below the band. -/
theorem below_of_farBelow (h : f32Lt a (bandsOf t c).fMin = true) : f32Lt a (bandsOf t c).tMin = true := by
  obtain ⟨⟨-, -, -, -, -, -, fin, -⟩, -, -, -, -, -, -, -, -, -, h0, h1⟩ := cfgWF_iff.mp hwf
  obtain ⟨subFin, sub0, sub1⟩ := one_sub_tolerance fin h0 h1
  obtain ⟨-, hnan, -⟩ := f32Lt_iff.mp h
  obtain ⟨h0, -⟩ := (bandsOf_around_target hwf ht).1 (f32Mul_left_not_nan hnan)
  exact f32Lt_of_lt_of_le h (f32Mul_le_self subFin sub0 h0 sub1 hnan).2

/-- Above the far band is above the band. -/
theorem above_of_farAbove (h : f32Gt a (bandsOf t c).fMax = true) : f32Gt a (bandsOf t c).tMax = true := by
  obtain ⟨⟨-, -, -, -, -, -, fin, -⟩, -, -, -, -, -, -, -, -, -, h0, h1⟩ := cfgWF_iff.mp hwf
  obtain ⟨addFin, add1⟩ := one_add_tolerance fin h0 h1
  have hmax0 := f32Le_trans ht (bandsOf_around_target hwf ht).2
  exact f32Lt_of_le_of_lt (le_f32Mul_self addFin (by omega) hmax0 add1) h

/-- Nothing is both below and above the band. -/
theorem not_above_of_below (h : f32Lt a (bandsOf t c).tMin = true) : f32Gt a (bandsOf t c).tMax = false := by
  obtain ⟨hmin, hmax⟩ := bandsOf_around_target hwf ht
  obtain ⟨-, hnan, -⟩ := f32Lt_iff.mp h
  exact f32Lt_false_of_le (f32Le_trans (f32Le_of_lt h) (f32Le_trans (hmin hnan).2 hmax))

/-! ### The step (R125) -/

theorem stepDuty_inBand {d0 : F32} (hmin : f32Le (bandsOf t c).tMin a = true) (hmax : f32Le a (bandsOf t c).tMax = true) :
    stepDuty a (bandsOf t c) d0 c = d0 := by
  have notBelow := f32Lt_false_of_le hmin
  have notAbove : f32Gt a (bandsOf t c).tMax = false := f32Lt_false_of_le hmax
  have notFarBelow := Bool.eq_false_iff.mpr (mt (below_of_farBelow hwf ht) (Bool.eq_false_iff.mp notBelow))
  have notFarAbove := Bool.eq_false_iff.mpr (mt (above_of_farAbove hwf ht) (Bool.eq_false_iff.mp notAbove))
  simp [stepDuty, notFarBelow, notFarAbove, notBelow, notAbove]

theorem stepDuty_below {d0 : F32} (h : f32Lt a (bandsOf t c).tMin = true) :
    stepDuty a (bandsOf t c) d0 c = f32Add d0 c.fastStep ∨ stepDuty a (bandsOf t c) d0 c = f32Add d0 c.slowStep := by
  have notAbove := not_above_of_below hwf ht h
  have notFarAbove := mt (above_of_farAbove hwf ht) (Bool.eq_false_iff.mp notAbove)
  rw [stepDuty, if_neg notFarAbove, if_pos h]
  exact ite_eq_or_eq ..

theorem stepDuty_above {d0 : F32} (h : f32Gt a (bandsOf t c).tMax = true) :
    stepDuty a (bandsOf t c) d0 c = f32Sub d0 c.fastStep ∨ stepDuty a (bandsOf t c) d0 c = f32Sub d0 c.slowStep := by
  have notBelow : ¬ f32Lt a (bandsOf t c).tMin = true := fun hlt => by
    rw [not_above_of_below hwf ht hlt] at h
    cases h
  have notFarBelow := mt (below_of_farBelow hwf ht) notBelow
  rw [stepDuty, if_neg notFarBelow, if_neg notBelow, if_pos h]
  exact ite_eq_or_eq ..

end

/-! ### One adjust (R130, R138, R139) -/

theorem DutyInBounds.finite {g : RegState} (h : DutyInBounds g) (hwf : cfgWF g.cfg = true) :
    f32Finite g.duty = true ∧ 0 ≤ f32Val g.duty := by
  obtain ⟨hmin, hmax⟩ := h
  obtain ⟨⟨-, -, finMin, finMax, -⟩, -, -, min0, -⟩ := cfgWF_iff.mp hwf
  exact ⟨f32Finite_of_between finMin finMax hmin hmax, min0.trans (f32Le_iff.mp hmin).2.2⟩

section
variable {r : Rail} {s : State} (hwf : cfgWF (s.reg r).cfg = true) (hbounds : DutyInBounds (s.reg r))
include hwf hbounds

theorem nextDuty_inBand (ht : f32Ge (s.reg r).target f32_0 = true)
    (hmin : f32Le (bandsOf (s.reg r).target (s.reg r).cfg).tMin (s.actual r) = true)
    (hmax : f32Le (s.actual r) (bandsOf (s.reg r).target (s.reg r).cfg).tMax = true) :
    s.nextDuty r = (s.reg r).duty := by
  rw [State.nextDuty, newDuty, stepDuty_inBand hwf ht hmin hmax]
  exact f32Clamp_of_bounds hbounds.1 hbounds.2

theorem le_nextDuty_of_below (ht : f32Ge (s.reg r).target f32_0 = true)
    (h : f32Lt (s.actual r) (bandsOf (s.reg r).target (s.reg r).cfg).tMin = true) :
    f32Le (s.reg r).duty (s.nextDuty r) = true := by
  obtain ⟨⟨-, -, -, -, finSlow, finFast, -⟩, -, -, -, -, -, slow0, fast0, -⟩ := cfgWF_iff.mp hwf
  obtain ⟨fin, h0⟩ := hbounds.finite hwf
  refine le_f32Clamp ?_ hbounds.2
  rcases stepDuty_below hwf ht h with fast | slow
  · rw [fast]
    exact le_f32Add fin finFast fin h0 (by omega)
  · rw [slow]
    exact le_f32Add fin finSlow fin h0 (by omega)

theorem nextDuty_le_of_above (ht : f32Ge (s.reg r).target f32_0 = true)
    (h : f32Gt (s.actual r) (bandsOf (s.reg r).target (s.reg r).cfg).tMax = true) :
    f32Le (s.nextDuty r) (s.reg r).duty = true := by
  obtain ⟨⟨-, -, -, -, finSlow, finFast, -⟩, -, -, -, -, -, slow0, fast0, -⟩ := cfgWF_iff.mp hwf
  obtain ⟨fin, h0⟩ := hbounds.finite hwf
  refine f32Clamp_le ?_ hbounds.1
  rcases stepDuty_above hwf ht h with fast | slow
  · rw [fast]
    exact f32Sub_le fin finFast fin h0 (by omega)
  · rw [slow]
    exact f32Sub_le fin finSlow fin h0 (by omega)

end

theorem f32Eq_refl {x : F32} (h : f32IsNaN x = false) : f32Eq x x = true := f32Eq_iff.mpr ⟨h, h, rfl⟩

theorem f32Le_refl {x : F32} (h : f32IsNaN x = false) : f32Le x x = true := f32Le_iff.mpr ⟨h, h, le_rfl⟩

/-- Settles O20: in band the clamped step is the duty itself, so the duty is not written. -/
theorem steadyStateHoldsDuty : Obligations.SteadyStateHoldsDuty := by
  intro r s hcan running hchan hwf ht hbounds w actual hmin hmax
  obtain ⟨fin, -⟩ := hbounds.finite hwf
  refine exec_regAdjust_hold hcan running hchan ?_
  rw [nextDuty_inBand hwf hbounds ht hmin hmax]
  exact f32Eq_refl (f32Finite_not_nan fin)

/-- What an adjust of a running regulator leaves in the register: the old duty, or the computed one. -/
theorem duty_of_regAdjust {r : Rail} {s t : State} (hcan : CanRun .b s) (running : (s.reg r).running = true)
    (hchan : (s.reg r).cfg.channel ≠ .unassigned) (h : exec (.regAdjust r) s = .next t) :
    (t.reg r).duty = (s.reg r).duty ∨ (t.reg r).duty = s.nextDuty r := by
  cases heq : f32Eq (s.nextDuty r) (s.reg r).duty with
  | true =>
    cases (exec_regAdjust_hold hcan running hchan heq).symm.trans h
    exact .inl (by simp)
  | false =>
    cases (exec_regAdjust_move hcan running hchan heq).symm.trans h
    exact .inr (by simp)

/-- Settles O21: the step goes toward the band, and the clamp does not take it past a duty within the bounds. -/
theorem adjustMovesDutyTowardTarget : Obligations.AdjustMovesDutyTowardTarget := by
  intro r s t hcan running hchan hwf ht hbounds h w actual
  obtain ⟨fin, -⟩ := hbounds.finite hwf
  have same : f32Le (s.reg r).duty (s.reg r).duty = true := f32Le_refl (f32Finite_not_nan fin)
  refine ⟨fun below => ?_, fun above => ?_⟩
  · rcases duty_of_regAdjust hcan running hchan h with e | e <;> rw [e]
    · exact same
    · exact le_nextDuty_of_below hwf hbounds ht below
  · rcases duty_of_regAdjust hcan running hchan h with e | e <;> rw [e]
    · exact same
    · exact nextDuty_le_of_above hwf hbounds ht above

/-! ### A start and its adjusts (R137) -/

/-- What a start leaves of regulator `r` under the configuration `c`, and every adjust after it keeps. -/
structure Regulating (r : Rail) (c : RegulatorConfig) (s : State) : Prop where
  free : s.mutex = none
  cfg : (s.reg r).cfg = c
  running : (s.reg r).running = true
  bounds : DutyInBounds (s.reg r)

theorem regulating_of_regStart {r : Rail} {s t : State} (hmutex : s.mutex = none) (hissuer : s.issuer = .a)
    (hwf : cfgWF (s.reg r).cfg = true) (hconf : configured (s.reg r).cfg = true)
    (h : exec (.regStart r) s = .next t) : Regulating r (s.reg r).cfg t := by
  have hexec := exec_regStart (r := r) ⟨hissuer, .inl hmutex⟩
  rw [opRegStart_configured hconf] at hexec
  cases hexec.symm.trans h
  exact ⟨by simpa using hmutex, by simp, by simp, dutyInBounds_minDuty (by simpa using hwf) (by simp)⟩

theorem Adjusted.keeps {g g' : RegState} {p p' : Pwm} {v : F32} (h : Adjusted g p v g' p') (hwf : cfgWF g.cfg = true)
    (hbounds : DutyInBounds g) : g'.cfg = g.cfg ∧ g'.running = g.running ∧ DutyInBounds g' := by
  obtain ⟨-, -, -, -, hle⟩ := cfgWF_duty hwf
  cases h with
  | hold => exact ⟨rfl, rfl, hbounds⟩
  | move => exact ⟨rfl, rfl, f32Clamp_bounds (stepDuty_not_nan hwf (hbounds.finite hwf).1 _ _) hle⟩

theorem Regulating.issuedBy {r : Rail} {c : RegulatorConfig} {s : State} (h : Regulating r c s) (o : Ctx) :
    Regulating r c { s with issuer := o } :=
  ⟨h.free, h.cfg, h.running, h.bounds⟩

theorem Regulating.regAdjust {r : Rail} {c : RegulatorConfig} {s t : State} (h : Regulating r c s)
    (hwf : cfgWF c = true) (hchan : c.channel ≠ .unassigned) (hissuer : s.issuer = .b)
    (hexec : exec (.regAdjust r) s = .next t) : Regulating r c t := by
  obtain ⟨free, rfl, running, bounds⟩ := h
  cases (exec_regAdjust_running ⟨hissuer, .inl free⟩ running hchan).symm.trans hexec
  have adjusted := applyAdjust_adjusted r (f32Add (s.uncal r) (s.reg r).cal) s.afterUncal
  obtain ⟨cfg', running', bounds'⟩ := adjusted.keeps hwf bounds
  refine ⟨?_, ?_, ?_, ?_⟩
  · simpa using free
  · simpa using cfg'
  · simpa using running'.trans running
  · simpa using bounds'

theorem Regulating.adjusts {r : Rail} {c : RegulatorConfig} {t : State} (h : Regulating r c t) (hwf : cfgWF c = true)
    (hchan : c.channel ≠ .unassigned) (n : Nat) : Regulating r c (adjusts r n t) := by
  induction n with
  | zero => exact h
  | succ n ih =>
    obtain ⟨u, hu⟩ := exec_next (.regAdjust r) { Claims.adjusts r n t with issuer := .b }
    rw [Claims.adjusts, hu]
    exact (ih.issuedBy .b).regAdjust hwf hchan rfl hu

/-- Settles O18: the start puts the duty at the minimum, and every adjust clamps it. -/
theorem dutyBoundedAfterStartAndAdjusts : Obligations.DutyBoundedAfterStartAndAdjusts := by
  intro r s t n hmutex hissuer hwf hconf h
  have started := regulating_of_regStart hmutex hissuer hwf hconf h
  have adjusted := started.adjusts hwf (configured_iff.mp hconf).2.2 n
  exact ⟨started.cfg, adjusted.cfg, adjusted.running, adjusted.bounds⟩

end Sys2Proof.Machine
end

section
/-! The rails and their container (41_rail.md R160 to R181): the whole next state of every operation in every case. -/

namespace Sys2Proof.Machine
open Sys2Proof.Claims

/-! ### The enable output (R160, R162, R163, R165) -/

/-- A rail is configured when it has its enable pin and a configured regulator (R160). -/
theorem State.railConfigured_iff {s : State} {r : Rail} :
    s.railConfigured r = true ↔ s.enPin r ≠ .unassigned ∧ configured (s.reg r).cfg = true := by
  simp [State.railConfigured]

theorem State.railConfigured_eq_false_iff {s : State} {r : Rail} :
    s.railConfigured r = false ↔ ¬(s.enPin r ≠ .unassigned ∧ configured (s.reg r).cfg = true) := by
  rw [← State.railConfigured_iff, Bool.not_eq_true]

/-- Settles O23: each of the three asks first whether the rail is configured, and then writes the enable. -/
theorem railEnableOperations : Obligations.RailEnableOperations := by
  intro r s hcan ok
  have on : exec (.railOn r) s = .next ((opRailOn r s).commit .a) := runShared_onlyA hcan
  have off : exec (.railOff r) s = .next ((opRailOff r s).commit .a) := runShared_onlyA hcan
  have toggle : exec (.railToggle r) s = .next ((opRailToggle r s).commit .a) := runShared_onlyA hcan
  rw [on, off, toggle, opRailOn, opRailOff, opRailToggle]
  refine ⟨fun hok => ?_, fun hok => ?_⟩
  · simp [State.railConfigured_eq_false_iff.mpr hok]
  · simp [State.railConfigured_iff.mpr hok]

/-! ### A configuration of the rail (R161) -/

/-- A configure of the regulator writes no field of a rail (R126). -/
theorem opRegConfigure_keepsRails {r : Rail} {cfg : RegulatorConfig} {s : State} (hwf : cfgWF cfg = true)
    (hshared : ¬(cfg.pin ≠ .unassigned ∧ cfg.pin = (s.reg r.other).cfg.pin)) :
    ∃ t, opRegConfigure r cfg s = .ret t .nothing ∧ t.railVdd = s.railVdd ∧ t.railVpp = s.railVpp := by
  rw [opRegConfigure_accepted hwf hshared]
  split_ifs
  · exact ⟨_, rfl, by simp, by simp⟩
  · exact ⟨_, rfl, by simp, by simp⟩

/-- An enable is kept only when its pin is (R161). -/
theorem enabled_and_samePin (enabled : Bool) (p q : Pin) :
    (enabled && p == q) = if p = q then enabled else false := by
  by_cases h : p = q <;> simp [h]

/-- Settles O22: the regulator's configure refuses or accepts, and the rail's own fields are written on the accepted
state. -/
theorem railConfigureResult : Obligations.RailConfigureResult := by
  intro r rc s hcan shared
  have railConfigure : exec (.railConfigure r rc) s = .next ((opRailConfigure r rc s).commit .a) := runShared_onlyA hcan
  rw [exec_regConfigure hcan, railConfigure, opRailConfigure]
  refine ⟨fun hwf => ?_, fun hwf hshared => ?_, fun hwf hshared => ?_⟩
  · rw [opRegConfigure_illFormed hwf, OpOut.bind_refuse, OpOut.commit_refuse]
  · rw [opRegConfigure_shared hwf hshared, OpOut.bind_refuse, OpOut.commit_refuse]
  · obtain ⟨t, accepted, vdd, vpp⟩ := opRegConfigure_keepsRails hwf hshared
    rw [accepted, OpOut.bind_ret, ← vdd, ← vpp]
    simp only [← enabled_and_samePin]
    refine ⟨_, rfl, ?_⟩
    cases r <;> rfl

/-! ### The calibration offset and its record (R166 to R168, R176) -/

/-- Settles O24: the offset is written first, and the target is set on that state. -/
theorem railInitCalBeginsSession : Obligations.RailInitCalBeginsSession := by
  intro r ref s hcan v g
  have initCal : exec (.railInitCal r ref) s = .next ((opRailInitCal r ref s).commit .a) := runShared_onlyA hcan
  rw [initCal, opRailInitCal]
  refine ⟨fun hnan => ?_, fun hnan heq => ?_, fun hnan heq => ?_⟩
  · rw [if_pos hnan, OpOut.commit_refuse]
  · rw [if_neg (Bool.eq_false_iff.mp hnan), opRegSetCal, OpOut.bind_ret, opRegSetTarget_not_nan hnan,
      State.reg_setReg_self, if_pos heq, OpOut.commit_ret]
  · rw [if_neg (Bool.eq_false_iff.mp hnan), opRegSetCal, OpOut.bind_ret, opRegSetTarget_not_nan hnan,
      State.reg_setReg_self, if_neg (Bool.eq_false_iff.mp heq), State.setReg_setReg, OpOut.commit_ret]

theorem opRailSaveCal_unconfigured {r : Rail} {m : F32} {s : State}
    (h : ¬(s.enPin r ≠ .unassigned ∧ configured (s.reg r).cfg = true)) : opRailSaveCal r m s = .fail s := by
  rw [opRailSaveCal, State.railConfigured_eq_false_iff.mpr h]
  rfl

/-- The state once a save on rail `r` against the measured `m` has sampled and written the offset register (R167). -/
def State.calibrated (s : State) (r : Rail) (m : F32) : State :=
  s.afterUncal.setReg r { s.reg r with cal := f32Sub m (s.uncal r) }

@[simp] theorem State.nvm_calibrated (s : State) (r : Rail) (m : F32) : (s.calibrated r m).nvm = s.nvm := by
  simp [State.calibrated]

theorem opRailSaveCal_configured {r : Rail} {m : F32} {s : State} (hsize : 13 ≤ s.build.nvmSize)
    (h : s.enPin r ≠ .unassigned ∧ configured (s.reg r).cfg = true) :
    opRailSaveCal r m s = .ret ((s.calibrated r m).saveRecord r (f32Sub m (s.uncal r))) (.bool true) := by
  have rail : s.railConfigured r = true := State.railConfigured_iff.mpr h
  have channel : (s.reg r).cfg.channel ≠ .unassigned := (configured_iff.mp h.2).2.2
  simp [opRailSaveCal, rail, withUncal_assigned channel, opRegSetCal, State.recordsInRange, hsize, State.calibrated]

/-- Settles O25: the saved record is the one of the offset written to the register. -/
theorem railSaveCalStoresRecord : Obligations.RailSaveCalStoresRecord := by
  intro r m s hcan hwf hsize ok off b0 b1 b2 b3
  rw [exec_railSaveCal, runShared_onlyA hcan]
  refine ⟨fun hok => ?_, fun hok => ?_⟩
  · rw [opRailSaveCal_unconfigured hok, OpOut.commit_fail]
  · have byte := fun k hk => recordByte_saveRecord (s.calibrated r m) r off k hk (by simpa using hwf)
    have outside : ∀ a, OutsideRecord r a → ((s.calibrated r m).saveRecord r off).nvmByte a = s.nvmByte a := by
      intro a ha
      rw [nvmByte_saveRecord_outside _ r off a ha, State.nvmByte, State.nvm_calibrated, State.nvmByte]
    rw [opRailSaveCal_configured hsize hok]
    refine ⟨_, rfl, ?_, byte 0 (by decide), byte 1 (by decide), byte 2 (by decide), byte 3 (by decide),
      byte 4 (by decide), outside⟩
    cases r <;> rfl

theorem State.loadRecord_of_not_valid {s : State} {r : Rail} (h : s.recordValid r = false) : s.loadRecord r = f32_0 :=
  if_neg (Bool.eq_false_iff.mp h)

/-- Inside the storage a load writes the offset register and answers whether the record is valid (R168). -/
theorem exec_railLoadCal_inRange {r : Rail} {s : State} (hcan : CanRun .a s) (hsize : 13 ≤ s.build.nvmSize) :
    exec (.railLoadCal r) s =
      .next ((s.setReg r { s.reg r with cal := s.loadRecord r }).setResult .a (.bool (s.recordValid r))) := by
  rw [exec_railLoadCal, runShared_onlyA hcan]
  simp [opRailLoadCal, State.recordsInRange, hsize, opRegSetCal]

/-- Settles O26: the two cases are those of the record's validity. -/
theorem railLoadCalChecksRecord : Obligations.RailLoadCalChecksRecord := by
  intro r s hcan hsize b v
  have valid_iff : s.recordValid r = true ↔ b 4 = b 0 + b 1 + b 2 + b 3 ∧ f32Finite v = true := s.recordValid_iff r
  rw [exec_railLoadCal_inRange hcan hsize]
  refine ⟨fun h => ?_, fun h => ?_⟩
  · have valid := valid_iff.mpr h
    rw [valid, State.loadRecord_of_valid valid]
    rfl
  · have invalid : s.recordValid r = false := Bool.eq_false_iff.mpr (mt valid_iff.mp h)
    rw [invalid, State.loadRecord_of_not_valid invalid]

theorem State.recordByte_congr {s t : State} (h : t.nvm = s.nvm) : t.recordByte = s.recordByte := by
  funext r k
  rw [State.recordByte, State.nvmByte, h, State.recordByte, State.nvmByte]

/-- A load depends on the NVM only: what it leaves in the offset register, and what it answers (R168). -/
theorem exec_railLoadCal_of_nvm {s t : State} (r : Rail) (hcan : CanRun .a t) (hsize : 13 ≤ t.build.nvmSize)
    (h : t.nvm = s.nvm) :
    ∃ u, exec (.railLoadCal r) t = .next u ∧ (u.reg r).cal = s.loadRecord r ∧
      u.a.result = .bool (s.recordValid r) := by
  have valid : t.recordValid r = s.recordValid r := by
    simp only [State.recordValid, State.recordValue, State.recordByte_congr h]
  have loaded : t.loadRecord r = s.loadRecord r := by
    simp only [State.loadRecord, valid, State.recordValue, State.recordByte_congr h]
  rw [exec_railLoadCal_inRange hcan hsize, valid, loaded]
  exact ⟨_, rfl, by simp, rfl⟩

theorem recordValid_saveRecord {s : State} {r : Rail} {v : F32} (hwf : nvmWf s.nvm = true)
    (hfin : f32Finite v = true) : (s.saveRecord r v).recordValid r = true :=
  (State.recordValid_iff _ r).mpr ⟨checksumHolds_saveRecord s r v hwf, by rwa [recordValue_saveRecord s r v hwf]⟩

/-- Settles O30: the saved record is valid and holds the offset; with one byte changed its checksum does not match. -/
theorem calibrationSessionReloads : Obligations.CalibrationSessionReloads := by
  intro r m s t hcan hwf hsize hpin hconf hfin hsave
  rw [exec_railSaveCal, runShared_onlyA hcan, opRailSaveCal_configured hsize ⟨hpin, hconf⟩,
    OpOut.commit_ret] at hsave
  have after := Host.Outcome.next.inj hsave
  have can : CanRun .a t := by simpa [← after, CanRun, State.calibrated] using hcan
  have size : 13 ≤ t.build.nvmSize := by simpa [← after, State.calibrated] using hsize
  have nvm : t.nvm = ((s.calibrated r m).saveRecord r (f32Sub m (s.uncal r))).nvm := by
    rw [← after, State.nvm_setResult]
  have wf : nvmWf (s.calibrated r m).nvm = true := by rwa [State.nvm_calibrated]
  refine ⟨?_, fun k x hk hx => ?_⟩
  · obtain ⟨u, load, cal, result⟩ := exec_railLoadCal_of_nvm r can size nvm
    exact ⟨u, load, cal.trans (calibrationRecordRoundTrip r _ _ wf hfin),
      result.trans (congrArg _ (recordValid_saveRecord wf hfin))⟩
  · rw [State.nvmByte, nvm] at hx
    obtain ⟨changed, zero⟩ := (singleByteCorruptionDetected r _ _ wf).2 k x hk hx
    have invalid := Bool.eq_false_iff.mpr fun valid => changed ((State.recordValid_iff _ r).mp valid).1
    rw [← zero, ← invalid]
    exact exec_railLoadCal_of_nvm r can size (by rw [nvm])

/-! ### The routing outputs (R169 to R175) -/

theorem srAssigned_iff {p : SrPins} :
    srAssigned p = true ↔ p.data ≠ .unassigned ∧ p.clock ≠ .unassigned ∧ p.latch ≠ .unassigned := by
  simp [srAssigned, and_assoc]

theorem opSetRoute_unassigned {k : RouteBit} {b : Bool} {s : State} (h : srAssigned s.railVpp.srPins = false) :
    opSetRoute k b s = .fail s := by
  simp [opSetRoute, h]

/-- The write of a routing operation: bit `k` holds `b` (R169). -/
def State.setRoute (s : State) (k : RouteBit) (b : Bool) : State :=
  { s with railVpp := { s.railVpp with route := s.railVpp.route.set k b } }

theorem opSetRoute_assigned {k : RouteBit} {b : Bool} {s : State} (h : srAssigned s.railVpp.srPins = true) :
    opSetRoute k b s = .ret (s.setRoute k b) (.bool true) := by
  simp [opSetRoute, h, State.setRoute]

/-- The statement's premise on a position, over the routing bits (log 30). -/
theorem allAt_iff {s : State} {n : Fin 8} {b : Bool} :
    AllAt s n b ↔ ∀ k, routePosition s.build.routeBit k = n → s.railVpp.route.get k = b := by
  refine ⟨fun ⟨a9, a18, ce, oe, we⟩ k => ?_, fun h => ⟨h .a9, h .a18, h .ce, h .oe, h .we⟩⟩
  cases k
  case a9 => exact a9
  case a18 => exact a18
  case ce => exact ce
  case oe => exact oe
  case we => exact we

/-- A written routing bit shows at its own position, and the bits at every other position are as before (R32, R169). -/
theorem drivesBit_of_setRoute {i : Instr} {k : RouteBit} {b : Bool} {s : State}
    (h : exec i s = .next ((s.setRoute k b).setResult .a (.bool true))) :
    DrivesBit i s (routePosition s.build.routeBit k) b := by
  refine ⟨_, h, fun all => State.srOutput_eq_some.mpr ⟨⟨k, rfl⟩, allAt_iff.mp all⟩, fun n hn => ?_⟩
  exact State.srOutput_congr rfl fun k' hk' => Route.get_set_ne _ k k' b fun same => hn (same ▸ hk'.symm)

/-- Settles O31: the five routing operations are one operation on a bit, and the switch onto VPP is its own. -/
theorem variantOutputsWriteTheirBit : Obligations.VariantOutputsWriteTheirBit := by
  intro b s hcan p ok fail write
  have run : ∀ k, runShared .onlyA (opSetRoute k b) s = .next ((opSetRoute k b s).commit .a) :=
    fun _ => runShared_onlyA hcan
  have onVpp : exec (.vddSetOnVpp b) s = .next ((opSetOnVpp b s).commit .a) := runShared_onlyA hcan
  have unassigned : ¬ok → ∀ k, runShared .onlyA (opSetRoute k b) s = .next fail := fun hok k => by
    rw [run, opSetRoute_unassigned (Bool.eq_false_iff.mpr (mt srAssigned_iff.mp hok)), OpOut.commit_fail]
  have assigned : ok → ∀ k,
      runShared .onlyA (opSetRoute k b) s = .next ((s.setRoute k b).setResult .a (.bool true)) := fun hok k => by
    rw [run, opSetRoute_assigned (srAssigned_iff.mpr hok), OpOut.commit_ret]
  refine ⟨fun hok => ?_, fun hok => ?_, fun hok => ?_, fun hpin => ?_, fun hpin => ?_⟩
  · have h := unassigned hok
    exact ⟨h .a9, h .a18, h .ce, h .oe, h .we⟩
  · have h := assigned hok
    exact ⟨h .a9, h .a18, h .ce, h .oe, h .we⟩
  · have drives : ∀ k i, exec i s = runShared .onlyA (opSetRoute k b) s →
        DrivesBit i s (routePosition s.build.routeBit k) b :=
      fun k _ hi => drivesBit_of_setRoute (hi.trans (assigned hok k))
    exact ⟨drives .a9 _ rfl, drives .a18 _ rfl, drives .ce _ rfl, drives .oe _ rfl, drives .we _ rfl⟩
  · rw [onVpp, opSetOnVpp, if_pos hpin, OpOut.commit_fail]
  · rw [onVpp, opSetOnVpp, if_neg hpin, OpOut.commit_ret]

/-! ### The container (R180, R181) -/

theorem State.setReg_setResult (s : State) (r : Rail) (g : RegState) (c : Ctx) (res : Result) :
    (s.setResult c res).setReg r g = (s.setReg r g).setResult c res := by
  cases r <;> cases c <;> rfl

theorem State.setPwm_setResult (s : State) (r : Rail) (p : Pwm) (c : Ctx) (res : Result) :
    (s.setResult c res).setPwm r p = (s.setPwm r p).setResult c res := by
  cases r <;> cases c <;> rfl

theorem State.setResult_setResult (s : State) (c : Ctx) (res res' : Result) :
    (s.setResult c res).setResult c res' = s.setResult c res' := by
  cases c <;> rfl

/-- One half of a container operation: it answers whether the regulator is configured, leaves a configured one running
and armed, or neither, as `on` says, and touches neither the other rail nor whose turn it is. -/
structure SwitchesRail (op : Rail → State → OpOut) (on : Bool) : Prop where
  answers : ∀ r s, op r s = .ret (op r s).state (.bool (configured (s.reg r).cfg))
  switched : ∀ r s, configured (s.reg r).cfg = true →
    ((op r s).state.reg r).running = on ∧ ((op r s).state.pwm r).armed = on
  other : ∀ r s, (op r s).state.reg r.other = s.reg r.other ∧ (op r s).state.pwm r.other = s.pwm r.other
  turn : ∀ r s, (op r s).state.issuer = s.issuer ∧ (op r s).state.mutex = s.mutex
  resultFree : ∀ r s c res, (op r (s.setResult c res)).state = (op r s).state.setResult c res

/-- An operation that fails on an unconfigured regulator, and else makes one `switch` of the rail, is such a half. -/
theorem SwitchesRail.of_switch {op : Rail → State → OpOut} {switch : Rail → State → State} {on : Bool}
    (unconfigured : ∀ {r s}, configured (s.reg r).cfg = false → op r s = .fail s)
    (isConfigured : ∀ {r s}, configured (s.reg r).cfg = true → op r s = .ret (switch r s) (.bool true))
    (switched : ∀ r s, ((switch r s).reg r).running = on ∧ ((switch r s).pwm r).armed = on)
    (other : ∀ r s, (switch r s).reg r.other = s.reg r.other ∧ (switch r s).pwm r.other = s.pwm r.other)
    (turn : ∀ r s, (switch r s).issuer = s.issuer ∧ (switch r s).mutex = s.mutex)
    (resultFree : ∀ r s c res, switch r (s.setResult c res) = (switch r s).setResult c res) :
    SwitchesRail op on where
  answers r s := by
    cases h : configured (s.reg r).cfg
    · rw [unconfigured h]; rfl
    · rw [isConfigured h]; rfl
  switched r s h := by rw [isConfigured h]; exact switched r s
  other r s := by
    cases h : configured (s.reg r).cfg
    · rw [unconfigured h]; exact ⟨rfl, rfl⟩
    · rw [isConfigured h]; exact other r s
  turn r s := by
    cases h : configured (s.reg r).cfg
    · rw [unconfigured h]; exact ⟨rfl, rfl⟩
    · rw [isConfigured h]; exact turn r s
  resultFree r s c res := by
    cases h : configured (s.reg r).cfg
    · rw [unconfigured h, unconfigured (by simpa using h)]; rfl
    · rw [isConfigured h, isConfigured (by simpa using h)]; exact resultFree r s c res

theorem opRegStart_switchesRail : SwitchesRail opRegStart true :=
  .of_switch opRegStart_unconfigured opRegStart_configured (by simp) (by simp) (by simp)
    (by simp [State.setReg_setResult, State.setPwm_setResult])

theorem opRegStop_switchesRail : SwitchesRail opRegStop false :=
  .of_switch opRegStop_unconfigured opRegStop_configured (by simp) (by simp) (by simp)
    (by simp [State.disarm_eq, State.setReg_setResult, State.setPwm_setResult])

theorem bool_beq_bool_true (x : Bool) : (Result.bool x == .bool true) = x := by cases x <;> rfl

/-- The two halves, VDD's first, each issued on its own, give the container operation's state; its result is their
conjunction (R180, R181). -/
theorem SwitchesRail.both {op : Rail → State → OpOut} {on : Bool} (h : SwitchesRail op on) {s : State}
    (hcan : CanRun .a s) :
    ∃ u v, runShared .onlyA (op .vdd) s = .next u ∧ runShared .onlyA (op .vpp) u = .next v ∧
      runShared .onlyA (opBothRails op) s =
        .next (v.setResult .a (.bool (configured (s.reg .vdd).cfg && configured (s.reg .vpp).cfg))) ∧
      (configured (s.reg .vdd).cfg = true → (v.reg .vdd).running = on ∧ (v.pwm .vdd).armed = on) ∧
      (configured (s.reg .vpp).cfg = true → (v.reg .vpp).running = on ∧ (v.pwm .vpp).armed = on) := by
  obtain ⟨vppKept, -⟩ := h.other .vdd s
  obtain ⟨vddKept, vddPwmKept⟩ := h.other .vpp (op .vdd s).state
  obtain ⟨issuerKept, mutexKept⟩ := h.turn .vdd s
  simp only [Rail.other] at vppKept vddKept vddPwmKept
  have hcan' : CanRun .a ((op .vdd s).state.setResult .a (.bool (configured (s.reg .vdd).cfg))) := by
    simpa [CanRun, issuerKept, mutexKept] using hcan
  refine ⟨_, (op .vpp (op .vdd s).state).state.setResult .a (.bool (configured (s.reg .vpp).cfg)), ?_,
    (runShared_onlyA hcan').trans ?_, ?_, fun hvdd => ?_, fun hvpp => ?_⟩
  · rw [runShared_onlyA hcan, h.answers, OpOut.commit_ret, OpOut.state_ret]
  · rw [h.answers, OpOut.commit_ret, h.resultFree, State.setResult_setResult, State.reg_setResult, vppKept]
  · rw [runShared_onlyA hcan, opBothRails, h.answers .vdd s, OpOut.bind_ret, h.answers .vpp]
    simp [State.setResult_setResult, vppKept, bool_beq_bool_true]
  · simpa [vddKept, vddPwmKept] using h.switched .vdd s hvdd
  · simpa using h.switched .vpp (op .vdd s).state (by rwa [vppKept])

/-- Settles O32: the start and the stop of one rail each switch it, and the container's operation is the two halves. -/
theorem containerAttemptsBothRails : Obligations.ContainerAttemptsBothRails := fun _ hcan =>
  ⟨opRegStart_switchesRail.both hcan, opRegStop_switchesRail.both hcan⟩

end Sys2Proof.Machine
end

section
/-! The sequencer's operations (42_sequencer.md R211 to R219), one equation per outcome of each. -/

namespace Sys2Proof.Machine

/-! ### Launch and stop (R211, R212) -/

theorem runFree_onlyA (body : State → Ctx → State) {s : State} (h : s.issuer = .a) :
    runFree .onlyA body s = .next (body s .a) := by
  rw [runFree_run (by simp [h]), h]

theorem exec_seqLaunch {s : State} (h : s.issuer = .a) : exec .seqLaunch s = .next (opSeqLaunch s .a) :=
  runFree_onlyA _ h

theorem exec_seqStop {s : State} (h : s.issuer = .a) : exec .seqStop s = .next (opSeqStop s .a) :=
  runFree_onlyA _ h

theorem opSeqLaunch_stopped {s : State} (h : s.seq.status = .stopped) (c : Ctx) :
    opSeqLaunch s c =
      { s with seq := { status := .starting, phase := .entry }, fifoAtoB := none, fifoBtoA := none }.setWait c
        .launch :=
  if_neg (not_not.mpr h)

theorem opSeqLaunch_not_stopped {s : State} (h : s.seq.status ≠ .stopped) (c : Ctx) :
    opSeqLaunch s c = s.setResult c .nothing := if_pos h

theorem opSeqStop_running {s : State} (h : s.seq.status = .running) (c : Ctx) :
    opSeqStop s c = { s with seq := { s.seq with status := .stopping } }.setWait c .stop := if_neg (not_not.mpr h)

theorem opSeqStop_not_running {s : State} (h : s.seq.status ≠ .running) (c : Ctx) :
    opSeqStop s c = s.setResult c .nothing := if_pos h

/-- Settles O33: each of the two asks first for the one status it starts from. -/
theorem seqLaunchAndStopHold : Obligations.SeqLaunchAndStopHold := by
  intro s hissuer
  rw [exec_seqLaunch hissuer, exec_seqStop hissuer]
  refine ⟨fun h => ?_, fun h => ?_, fun h => ?_, fun h => ?_⟩
  · rw [opSeqLaunch_not_stopped h]
  · rw [opSeqLaunch_stopped h]
  · rw [opSeqStop_not_running h]
  · rw [opSeqStop_running h]

/-! ### The operations of either context (R213, R214, R216 to R219) -/

theorem runFree_both (body : State → Ctx → State) (s : State) : runFree .both body s = .next (body s s.issuer) :=
  runFree_run (Allowed.both_admits _)

theorem exec_seqIsStopRequested (s : State) :
    exec .seqIsStopRequested s = .next (s.setResult s.issuer (.bool (s.seq.status == .stopping))) :=
  runFree_both (fun s c => s.setResult c (.bool (s.seq.status == .stopping))) s

theorem exec_seqGetStatus (s : State) :
    exec .seqGetStatus s = .next (s.setResult s.issuer (.status s.seq.status)) :=
  runFree_both (fun s c => s.setResult c (.status s.seq.status)) s

theorem exec_seqLock (s : State) : exec .seqLock s = .next (opSeqLock s s.issuer) := runFree_both _ s

theorem exec_seqUnlock (s : State) : exec .seqUnlock s = .next (opSeqUnlock s s.issuer) := runFree_both _ s

theorem exec_seqPutParam (w : U32) (s : State) :
    exec (.seqPutParam w) s = .next (opSeqPutParam w s s.issuer) := runFree_both _ s

theorem exec_seqGetParam (s : State) : exec .seqGetParam s = .next (opSeqGetParam s s.issuer) := runFree_both _ s

/-- Settles O34: both are reads that neither the context nor the mutex holds back, and the numbers are the model's. -/
theorem seqStatusReads : Obligations.SeqStatusReads := fun s =>
  ⟨exec_seqIsStopRequested s, exec_seqGetStatus s, rfl, rfl, rfl, rfl⟩

section
variable {s : State} {c : Ctx}

theorem opSeqLock_free (h : s.mutex = none) : opSeqLock s c = { s with mutex := some c }.setResult c .nothing := by
  simp [opSeqLock, h]

theorem opSeqLock_other (h : s.mutex = some c.other) : opSeqLock s c = s.setWait c .lock := by
  have hne : c.other ≠ c := by cases c <;> decide
  simp [opSeqLock, h, hne]

theorem opSeqLock_owner (h : s.mutex = some c) : opSeqLock s c = s.setStuck c := by
  simp [opSeqLock, h]

theorem opSeqUnlock_owner (h : s.mutex = some c) :
    opSeqUnlock s c = { s with mutex := none }.setResult c .nothing := if_pos h

theorem opSeqUnlock_not_owner (h : s.mutex ≠ some c) : opSeqUnlock s c = s.refuse .unlockNotOwner := if_neg h

theorem opSeqPutParam_not_running (w : U32) (h : s.seq.status ≠ .running) :
    opSeqPutParam w s c = s.setResult c .nothing := if_pos h

theorem opSeqPutParam_empty (w : U32) (h : s.seq.status = .running) (hfifo : s.outFifo c = none) :
    opSeqPutParam w s c = (s.setOutFifo c (some w)).setResult c .nothing := by
  simp [opSeqPutParam, h, hfifo]

theorem opSeqPutParam_full (w : U32) (h : s.seq.status = .running) (hfifo : s.outFifo c ≠ none) :
    opSeqPutParam w s c = s.setWait c (.put w) := by
  obtain ⟨x, hx⟩ := Option.ne_none_iff_exists'.mp hfifo
  simp [opSeqPutParam, h, hx]

theorem opSeqGetParam_not_running (h : s.seq.status ≠ .running) :
    opSeqGetParam s c = s.setResult c .noValue := if_pos h

theorem opSeqGetParam_full {x : U32} (h : s.seq.status = .running) (hfifo : s.inFifo c = some x) :
    opSeqGetParam s c = (s.setInFifo c none).setResult c (.u32 x) := by
  simp [opSeqGetParam, h, hfifo]

theorem opSeqGetParam_empty (h : s.seq.status = .running) (hfifo : s.inFifo c = none) :
    opSeqGetParam s c = s.setWait c .get := by
  simp [opSeqGetParam, h, hfifo]

end

/-- Settles O35: the lock looks at who owns the mutex, the unlock only at whether its issuer does. -/
theorem seqLockAndUnlock : Obligations.SeqLockAndUnlock := by
  intro s c
  rw [exec_seqLock, exec_seqUnlock]
  refine ⟨fun free => ?_, fun other => ?_, fun owner => ?_, fun owner => ?_, fun foreign => ?_⟩
  · rw [opSeqLock_free free]
  · rw [opSeqLock_other other]
  · rw [opSeqLock_owner owner]
  · rw [opSeqUnlock_owner owner]
  · rw [opSeqUnlock_not_owner foreign]

/-- Settles O36: both ask first whether the sequencer runs, then for the one word of their channel. -/
theorem seqChannels : Obligations.SeqChannels := by
  intro w s c
  rw [exec_seqPutParam, exec_seqGetParam]
  refine ⟨fun idle => ⟨?_, ?_⟩, fun running => ?_⟩
  · rw [opSeqPutParam_not_running w idle]
  · rw [opSeqGetParam_not_running idle]
  refine ⟨fun empty => ?_, fun full => ?_, fun x word => ?_, fun empty => ?_⟩
  · rw [opSeqPutParam_empty w running empty]
  · rw [opSeqPutParam_full w running full]
  · rw [opSeqGetParam_full running word]
  · rw [opSeqGetParam_empty running empty]

end Sys2Proof.Machine
end

section
/-! The steps of a context inside a blocking operation (42_sequencer.md R215, R216, R218, R219) and of context B in its
maintenance loop (R220 to R227). -/

namespace Sys2Proof.Machine
open Sys2Proof.Claims

/-! ### Held operations -/

theorem ctxMove_of_stuck {c : Ctx} {s : State} (h : (s.ctx c).stuck = true) : ctxMove c s = none := by
  simp [ctxMove, h]

/-- Inside a blocking operation a context's step is its completion, and nothing else. -/
theorem ctxMove_of_wait {c : Ctx} {s : State} {w : Wait} (hstuck : (s.ctx c).stuck = false) (h : (s.ctx c).wait = w)
    (hw : w ≠ .none) : ctxMove c s = (completeWait s c).map .next := by
  simp [ctxMove, hstuck, h, hw]

section
variable {c : Ctx} {s : State}

theorem completeWait_launch (h : (s.ctx c).wait = .launch) :
    completeWait s c = if s.seq.status = .running then some (s.finish c .nothing) else none := by
  simp [completeWait, h]

theorem completeWait_stop (h : (s.ctx c).wait = .stop) :
    completeWait s c = if s.seq.status = .stopped then some (s.finish c .nothing) else none := by
  simp [completeWait, h]

theorem completeWait_lock (h : (s.ctx c).wait = .lock) :
    completeWait s c = if s.mutex = none then some ({ s with mutex := some c }.finish c .nothing) else none := by
  simp [completeWait, h]

theorem completeWait_put {w : U32} (h : (s.ctx c).wait = .put w) :
    completeWait s c =
      if s.outFifo c = none then some ((s.setOutFifo c (some w)).finish c .nothing) else none := by
  cases hfifo : s.outFifo c <;> simp [completeWait, h, hfifo]

theorem completeWait_get_empty (h : (s.ctx c).wait = .get) (hfifo : s.inFifo c = none) : completeWait s c = none := by
  simp [completeWait, h, hfifo]

theorem completeWait_get_full {x : U32} (h : (s.ctx c).wait = .get) (hfifo : s.inFifo c = some x) :
    completeWait s c = some ((s.setInFifo c none).finish c (.u32 x)) := by
  simp [completeWait, h, hfifo]

end

/-- Settles O37: the step of a held context is the completion, which asks for its operation's condition. -/
theorem heldOperationsComplete : Obligations.HeldOperationsComplete := by
  intro c s done
  refine ⟨ctxMove_of_stuck, fun hstuck => ?_⟩
  refine ⟨fun h => ?_, fun h => ?_, fun h => ?_, fun w h => ?_, fun h empty => ?_, fun x h word => ?_⟩
  · rw [ctxMove_of_wait hstuck h nofun, completeWait_launch h, apply_ite (Option.map _)]
    rfl
  · rw [ctxMove_of_wait hstuck h nofun, completeWait_stop h, apply_ite (Option.map _)]
    rfl
  · rw [ctxMove_of_wait hstuck h nofun, completeWait_lock h, apply_ite (Option.map _)]
    rfl
  · rw [ctxMove_of_wait hstuck h nofun, completeWait_put h, apply_ite (Option.map _)]
    rfl
  · rw [ctxMove_of_wait hstuck h nofun, completeWait_get_empty h empty]
    rfl
  · rw [ctxMove_of_wait hstuck h nofun, completeWait_get_full h word]
    rfl

/-! ### The maintenance loop -/

/-- At rest, B's move is that of its phase. -/
theorem ctxMove_b_of_atRest {s : State} (h : AtRest .b s) : ctxMove .b s = loopMove s := by
  obtain ⟨hstuck, hwait, hprog⟩ := h
  simp [ctxMove, hstuck, hwait, hprog]

/-- The adjust is B's to issue, so only the mutex can hold it (R72). -/
theorem ready_regAdjust (r : Rail) (s : State) : ready (.regAdjust r) .b s = s.mayTake .b := by
  simp [ready, ctxAllowed, needsMutex]

theorem adjustMove_of_not_a {r : Rail} {next : Phase} {s : State} (h : s.mutex ≠ some .a) :
    adjustMove r next s = some (exec (.regAdjust r) { s with seq := ⟨s.seq.status, next⟩, issuer := .b }) := by
  have may : s.mayTake .b = true := mayTake_of_ne_other h
  simp [adjustMove, ready_regAdjust, may, runAs]

theorem adjustMove_of_a {r : Rail} {next : Phase} {s : State} (h : s.mutex = some .a) : adjustMove r next s = none := by
  have held : s.mayTake .b = false := mayTake_eq_false h
  simp [adjustMove, ready_regAdjust, held]

theorem loopMove_idle {s : State} (h : s.seq.phase = .idle) : loopMove s = none := by
  simp [loopMove, h]

theorem loopMove_adjVdd {s : State} (h : s.seq.phase = .adjVdd) : loopMove s = adjustMove .vdd .sleep1 s := by
  simp [loopMove, h]

theorem loopMove_adjVpp {s : State} (h : s.seq.phase = .adjVpp) : loopMove s = adjustMove .vpp .sleep2 s := by
  simp [loopMove, h]

/-- In every phase but `Idle` and the two adjusts, B's step only moves its position on. -/
theorem loopMove_of_no_adjust {s : State} (hidle : s.seq.phase ≠ .idle) (hvdd : s.seq.phase ≠ .adjVdd)
    (hvpp : s.seq.phase ≠ .adjVpp) : loopMove s = some (.next s.advance) := by
  unfold loopMove State.advance Seq.advance
  cases hphase : s.seq.phase with
  | idle => exact absurd hphase hidle
  | adjVdd => exact absurd hphase hvdd
  | adjVpp => exact absurd hphase hvpp
  | entry | check | sleep1 | sleep2 | exit => rfl

/-- Settles O39: B's step moves its position on, and in the two adjust phases it is the adjust or none. -/
theorem loopStepsByPhase : Obligations.LoopStepsByPhase := by
  intro s hrest go adj
  rw [ctxMove_b_of_atRest hrest]
  have moves {q : Seq} (hphase : s.seq.phase ≠ .idle ∧ s.seq.phase ≠ .adjVdd ∧ s.seq.phase ≠ .adjVpp)
      (hq : s.seq.advance = q) : loopMove s = go q := by
    obtain ⟨hidle, hvdd, hvpp⟩ := hphase
    rw [loopMove_of_no_adjust hidle hvdd hvpp, State.advance, hq]
  refine ⟨loopMove_idle, fun h => ?_, fun h stopping => ?_, fun h going => ?_, fun h hmutex => ?_,
    fun h => ?_, fun h hmutex => ?_, fun h => ?_, fun h => ?_, fun h hmutex => ?_⟩
  · exact moves (by simp [h]) (by simp [Seq.advance, h])
  · exact moves (by simp [h]) (by simp [Seq.advance, h, stopping])
  · exact moves (by simp [h]) (by simp [Seq.advance, h, going])
  · rw [loopMove_adjVdd h, adjustMove_of_not_a hmutex]
  · exact moves (by simp [h]) (by simp [Seq.advance, h])
  · rw [loopMove_adjVpp h, adjustMove_of_not_a hmutex]
  · exact moves (by simp [h]) (by simp [Seq.advance, h])
  · exact moves (by simp [h]) (by simp [Seq.advance, h])
  · rcases h with h | h
    · rw [loopMove_adjVdd h, adjustMove_of_a hmutex]
    · rw [loopMove_adjVpp h, adjustMove_of_a hmutex]

end Sys2Proof.Machine
end

section
/-! The cycle of the sequencer's status (42_sequencer.md R210): `StatusMove` names the steps that move it, each with the
context whose turn it is, and every turn of a context is one of them or leaves the status. -/

namespace Sys2Proof.Machine
open Sys2Proof.Claims

/-- What a turn of context `c` from `s` to `t` can do to the status (R210): nothing, A's launch or stop, which leaves A
in its hold, or B's loop step at its entry or its exit. -/
inductive StatusMove (c : Ctx) (s t : State) : Prop
  | same (h : t.seq.status = s.seq.status)
  | launch (hc : c = .a) (hs : s.seq.status = .stopped) (ht : t.seq.status = .starting) (hold : t.a.wait = .launch)
  | entry (hc : c = .b) (hs : s.seq.phase = .entry) (ht : t.seq.status = .running)
  | stop (hc : c = .a) (hs : s.seq.status = .running) (ht : t.seq.status = .stopping) (hold : t.a.wait = .stop)
  | exit (hc : c = .b) (hs : s.seq.phase = .exit) (ht : t.seq.status = .stopped)

theorem StatusMove.of_same {c : Ctx} {s t : State} (h : SameBlock s t) : StatusMove c s t := by
  obtain ⟨-, -, -, -, hseq⟩ := h
  exact .same (by rw [hseq])

/-- A move of the status depends only on the sequencer of the state before it. -/
theorem StatusMove.before {c : Ctx} {s u t : State} (hsame : SameBlock s u) (h : StatusMove c u t) :
    StatusMove c s t := by
  obtain ⟨-, -, -, -, hseq⟩ := hsame
  cases h with
  | same h => exact .same (hseq ▸ h)
  | launch hc hs ht hold => exact .launch hc (hseq ▸ hs) ht hold
  | entry hc hs ht => exact .entry hc (hseq ▸ hs) ht
  | stop hc hs ht hold => exact .stop hc (hseq ▸ hs) ht hold
  | exit hc hs ht => exact .exit hc (hseq ▸ hs) ht

/-! ### One operation -/

theorem opSeqLaunch_statusMove (s : State) : StatusMove .a s (opSeqLaunch s .a) := by
  by_cases hq : s.seq.status = .stopped
  · rw [opSeqLaunch_stopped hq]
    exact .launch rfl hq rfl rfl
  · rw [opSeqLaunch_not_stopped hq]
    exact .of_same (sameBlock_setResult _ _ _)

theorem opSeqStop_statusMove (s : State) : StatusMove .a s (opSeqStop s .a) := by
  by_cases hq : s.seq.status = .running
  · rw [opSeqStop_running hq]
    exact .stop rfl hq rfl rfl
  · rw [opSeqStop_not_running hq]
    exact .of_same (sameBlock_setResult _ _ _)

/-- An operation that only A may issue moves the status as its body does, or is refused (R306). -/
theorem runFree_onlyA_statusMove {body : State → Ctx → State} {s t : State} (hbody : StatusMove .a s (body s .a))
    (h : runFree .onlyA body s = .next t) : StatusMove s.issuer s t := by
  rcases runFree_cases .onlyA body s with ⟨-, e⟩ | ⟨hadmits, e⟩ <;> cases e.symm.trans h
  · exact .of_same (sameBlock_refuse _ _)
  · have issuer : s.issuer = .a := by simpa using hadmits
    rwa [issuer]

/-- Of all operations only the launch and the stop write the sequencer. -/
theorem exec_statusMove {i : Instr} {s t : State} (h : exec i s = .next t) : StatusMove s.issuer s t := by
  have effect := (exec_effect h).seq
  generalize hq : t.seq = q at effect
  cases effect with
  | same => exact .same (by rw [hq])
  | launch hi => subst hi; exact runFree_onlyA_statusMove (opSeqLaunch_statusMove s) h
  | stop hi => subst hi; exact runFree_onlyA_statusMove (opSeqStop_statusMove s) h

/-! ### One step -/

/-- From `s` to `t` the block is left as it is, or one operation runs on it as context `c`'s. -/
def RunsOne (c : Ctx) (s t : State) : Prop := SameBlock s t ∨ ∃ i u, SameBlock s u ∧ runAs c i u = .next t

theorem RunsOne.of_same {c : Ctx} {s t : State} (h : SameBlock s t) : RunsOne c s t := .inl h

theorem RunsOne.of_runAs {c : Ctx} {i : Instr} {s u t : State} (hsame : SameBlock s u) (h : runAs c i u = .next t) :
    RunsOne c s t := .inr ⟨i, u, hsame, h⟩

theorem RunsOne.statusMove {c : Ctx} {s t : State} (h : RunsOne c s t) : StatusMove c s t := by
  obtain same | ⟨i, u, hsame, hrun⟩ := h
  · exact .of_same same
  · exact .before (hsame.trans (sameBlock_issuer u c)) (exec_statusMove hrun)

theorem issueMove_runsOne {s t : State} {c : Ctx} (h : issueMove c s = some (.next t)) : RunsOne c s t := by
  unfold issueMove at h
  split at h
  · cases h
  · split at h
    · split_ifs at h
      exact .of_runAs (sameBlock_popIssue s c) (Option.some.inj h)
    · cases h
      exact .of_same ((sameBlock_popIssue s c).trans (sameBlock_refuse _ _))
    · cases h

theorem bootMove_runsOne {s t : State} {k : BootStep} (h : bootMove k s = some (.next t)) : RunsOne .a s t := by
  unfold bootMove at h
  dsimp only at h
  split_ifs at h
  exact .of_runAs (sameBlock_pos s _) (Option.some.inj h)

theorem readMove_same {s t : State} (h : readMove s = some (.next t)) : SameBlock s t := by
  unfold readMove at h
  split at h <;> cases h
  exact readEvent_same _ s.popHost

theorem handlerMove_runsOne {s t : State} {bytes : List Byte} (h : handlerMove bytes s = some (.next t)) :
    RunsOne .a s t := by
  unfold handlerMove at h
  split at h
  · split_ifs at h
    exact .of_runAs (sameBlock_pos s _) (Option.some.inj h)
  · cases h
    exact .of_same ((sameBlock_pos s _).trans (sameBlock_emit _ _))

theorem posMove_runsOne {s t : State} (h : posMove s = some (.next t)) : RunsOne .a s t := by
  unfold posMove at h
  cases hpos : s.pos <;> rw [hpos] at h
  case boot => exact bootMove_runsOne h
  case opcodeFirst | opcodeSecond | params => exact .of_same (readMove_same h)
  case handler => exact handlerMove_runsOne h

/-- The adjust leaves the sequencer as the loop's step has moved it on. -/
theorem adjustMove_seq {r : Rail} {next : Phase} {s t : State} (h : adjustMove r next s = some (.next t)) :
    t.seq = ⟨s.seq.status, next⟩ := by
  unfold adjustMove at h
  split_ifs at h
  have effect := (exec_effect (Option.some.inj h)).seq
  generalize t.seq = q at effect
  cases effect with
  | same => rfl
  | launch hi => cases hi
  | stop hi => cases hi

/-- B's loop step moves the status at its entry and at its exit only (R220, R226). -/
theorem loopMove_statusMove {s t : State} (h : loopMove s = some (.next t)) : StatusMove .b s t := by
  unfold loopMove at h
  cases hphase : s.seq.phase <;> rw [hphase] at h <;> dsimp only at h
  case idle => cases h
  case entry => cases h; exact .entry rfl hphase rfl
  case adjVdd | adjVpp => exact .same (by rw [adjustMove_seq h])
  case check | sleep1 | sleep2 => cases h; exact .same rfl
  case exit => cases h; exact .exit rfl hphase rfl

theorem ctxMove_statusMove {s t : State} {c : Ctx} (h : ctxMove c s = some (.next t)) : StatusMove c s t := by
  obtain ⟨-, ⟨-, u, hu, e⟩ | ⟨-, -, hi⟩ | ⟨-, -, ⟨rfl, hp⟩ | ⟨rfl, hl⟩⟩⟩ := ctxMove_cases h
  · cases e
    exact .of_same (completeWait_same hu)
  · exact (issueMove_runsOne hi).statusMove
  · exact (posMove_runsOne hp).statusMove
  · exact loopMove_statusMove hl

theorem ctxTurn_statusMove {s t : State} {c : Ctx} (h : ctxTurn c s = .next t) : StatusMove c s t := by
  rcases ctxTurn_cases c s with ⟨o, hm, e⟩ | ⟨-, -, e⟩ | ⟨-, -, e⟩
  · exact ctxMove_statusMove (hm.trans (congrArg some (e.symm.trans h)))
  · cases e.symm.trans h
  · cases e.symm.trans h
    exact .of_same (.refl s)

/-- A step that is no reset is a turn of one of the contexts. -/
theorem step_statusMove {s t : State} (h : step s = .next t) (hmove : s.nextMove ≠ .reset) :
    ∃ c, s.nextMove = turnOf c ∧ StatusMove c s t := by
  have popped := sameBlock_popMove s
  rw [step_eq] at h
  cases hm : s.nextMove <;> rw [hm] at h
  case a => exact ⟨.a, rfl, .before popped (ctxTurn_statusMove h)⟩
  case b => exact ⟨.b, rfl, .before popped (ctxTurn_statusMove h)⟩
  case reset => exact absurd hm hmove

/-- B stands at its entry only while Starting (R210). -/
theorem Seq.Inv.starting_of_entry {q : Seq} (h : q.Inv) (hphase : q.phase = .entry) : q.status = .starting := by
  cases hs : q.status <;> simp_all [Seq.Inv]

/-- B stands at its exit only while Stopping (R210). -/
theorem Seq.Inv.stopping_of_exit {q : Seq} (h : q.Inv) (hphase : q.phase = .exit) : q.status = .stopping := by
  cases hs : q.status <;> simp_all [Seq.Inv]

/-- Settles O38: every move of the status is one of `StatusMove`, and the invariant ties B's entry and exit to the
status they leave. -/
theorem statusMovesOnlyAlongCycle : Obligations.StatusMovesOnlyAlongCycle := by
  intro s t hstep hinv hmove
  obtain ⟨c, hturn, move⟩ := step_statusMove hstep hmove
  cases move with
  | same h => exact .inl h
  | launch hc hs ht hold => subst hc; exact .inr (.inl ⟨hs, ht, hturn, hold⟩)
  | entry hc hs ht => subst hc; exact .inr (.inr (.inl ⟨hinv.starting_of_entry hs, ht, hturn, hs⟩))
  | stop hc hs ht hold => subst hc; exact .inr (.inr (.inr (.inl ⟨hs, ht, hturn, hold⟩)))
  | exit hc hs ht => subst hc; exact .inr (.inr (.inr (.inr ⟨hinv.stopping_of_exit hs, ht, hturn, hs⟩)))

end Sys2Proof.Machine
end

section
/-! Reading a command (43_host_commands.md R250 to R254, R270): when a text is the hex of some bytes, and what one event
does to the dispatcher. -/

namespace Sys2Proof.Machine
open Sys2Proof.Claims

/-! ### Pairs of characters (R97, R98) -/

theorem unHexPair_eq_none {c1 c2 : Byte} (h : hexVal c1 = none ∨ hexVal c2 = none) : unHexPair c1 c2 = none := by
  rcases h with h | h
  · rw [unHexPair, h]
  · cases h1 : hexVal c1 <;> simp [unHexPair, h1, h]

/-- One character that is not hex spoils the text (R253). -/
theorem unHexAll_eq_none (cs : Text) (h : ∃ c ∈ cs, hexVal c = none) : unHexAll cs = none := by
  match cs, h with
  | [], h => simp at h
  | [_], _ => rfl
  | c1 :: c2 :: cs, h =>
    have hpair : unHexPair c1 c2 = none ∨ unHexAll cs = none := by
      obtain ⟨c, hc, hnone⟩ := h
      rcases List.mem_cons.mp hc with rfl | hc
      · exact .inl (unHexPair_eq_none (.inl hnone))
      · rcases List.mem_cons.mp hc with rfl | hc
        · exact .inl (unHexPair_eq_none (.inr hnone))
        · exact .inr (unHexAll_eq_none cs ⟨c, hc, hnone⟩)
    rw [unHexAll]
    rcases hpair with hpair | hrest
    · rw [hpair]
    · cases unHexPair c1 c2 <;> simp [hrest]

/-- Byte `j` of a text is the pair of the characters `2 j` and `2 j + 1`, counted from 0 (R253). -/
theorem unHexAll_of_pairs {cs : Text} {ps : List Byte} (hlen : cs.length = 2 * ps.length)
    (hpairs : ∀ (j : Nat) (p : Byte), ps[j]? = some p →
      ∃ x y, cs[2 * j]? = some x ∧ cs[2 * j + 1]? = some y ∧ unHexPair x y = some p) :
    unHexAll cs = some ps := by
  induction ps generalizing cs with
  | nil => rw [List.length_eq_zero_iff.mp hlen]; rfl
  | cons p ps ih =>
    match cs, hlen with
    | x :: y :: cs, hlen =>
      have hfirst : unHexPair x y = some p := by simpa using hpairs 0 p rfl
      have hrest : unHexAll cs = some ps := ih (by simpa [Nat.mul_add] using hlen) fun j => hpairs (j + 1)
      rw [unHexAll, hfirst, hrest]

/-! ### The codec's verdict (R270) -/

theorem frameVerdict_row {c1 c2 s : Byte} {cs : Text} {row : WireRow} (hpair : unHexPair c1 c2 = some s)
    (hrow : wireRow s = some row) :
    frameVerdict (c1 :: c2 :: cs) =
      if cs.length ≠ 2 * row.params then .nok
      else (unHexAll cs).elim .nok fun ps => .accept (s :: ps) := by
  simp only [frameVerdict, hpair, hrow]
  cases unHexAll cs <;> rfl

/-- Settles O5: the verdict's checks, in their order; the last is whether every pair of characters is hex. -/
theorem frameVerdictByCase : Obligations.FrameVerdictByCase := by
  refine ⟨fun t ht => ?_, fun c1 c2 cs => ⟨fun hnone => ?_, fun s hpair hrow => ?_, fun s row hpair hrow => ?_⟩⟩
  · match t, ht with
    | [], _ => rfl
    | [_], _ => rfl
  · rw [frameVerdict, unHexPair_eq_none hnone]
  · simp only [frameVerdict, hpair, hrow]
  · rw [frameVerdict_row hpair hrow]
    refine ⟨fun hlen => if_pos hlen, fun hnone => ?_, fun ps hlen hps hpairs => ?_⟩
    · rw [unHexAll_eq_none cs hnone]
      exact ite_self _
    · rw [if_neg (not_not_intro hlen), unHexAll_of_pairs (by rw [hlen, hps]) hpairs]
      rfl

/-! ### The dispatcher's events (R251 to R254) -/

/-- The positions at which the dispatcher reads an event (R251). -/
inductive APos.Reads : APos → Prop
  | opcodeFirst : Reads .opcodeFirst
  | opcodeSecond (c1 : Byte) : Reads (.opcodeSecond c1)
  | params (op : Byte) (cs : Text) : Reads (.params op cs)

section
variable {s : State} (hrest : AtRest .a s)
include hrest

theorem ctxMove_of_reads (hpos : s.pos.Reads) : ctxMove .a s = readMove s := by
  rw [ctxMove_of_atRest hrest, posMove]
  generalize s.pos = p at hpos
  cases hpos <;> rfl

theorem ctxMove_of_noEvent (hpos : s.pos.Reads) (hhost : s.env.host = []) : ctxMove .a s = none := by
  rw [ctxMove_of_reads hrest hpos, readMove, hhost]

theorem ctxMove_of_event {e : HostEvent} {rest : List HostEvent} (hpos : s.pos.Reads) (hhost : s.env.host = e :: rest) :
    ctxMove .a s = some (.next (readEvent e { s with env := { s.env with host := rest } })) := by
  rw [ctxMove_of_reads hrest hpos, readMove, hhost, State.popHost, hhost]
  rfl

end

/-- Settles O47: each event is read by its own branch, and the opcode's pair is looked up in the table of R83. -/
theorem opcodeReading : Obligations.OpcodeReading := by
  intro c1 c2 rest s hrest at_
  have reads (hpos : s.pos = .opcodeFirst ∨ s.pos = .opcodeSecond c1) : s.pos.Reads := by
    rcases hpos with hpos | hpos <;> rw [hpos]
    · exact .opcodeFirst
    · exact .opcodeSecond c1
  refine ⟨fun hpos hhost => ?_, fun hpos hhost => ctxMove_of_event hrest (reads hpos) hhost,
    fun hpos hhost => ?_, fun hpos hhost => ctxMove_of_noEvent hrest (reads hpos) hhost⟩
  · rw [ctxMove_of_event hrest (reads (.inl hpos)) hhost]
    simp only [readEvent, hpos, at_]
  · have second : ctxMove .a s = some (.next (takeOpcode c1 c2 (at_ (.opcodeSecond c1)))) := by
      rw [ctxMove_of_event hrest (reads (.inr hpos)) hhost]
      simp only [readEvent, hpos, at_]
    rw [second]
    refine ⟨fun hnone => ?_, fun op hpair hrow => ?_, fun op row hpair hrow => ?_⟩
    · rw [takeOpcode, unHexPair_eq_none hnone]
    · simp only [takeOpcode, hpair, hrow, at_]
    · simp only [takeOpcode, hpair, hrow, at_]

/-- All `2 P` parameter characters are there (R253). -/
theorem takeParam_complete {op : Byte} {row : WireRow} (hrow : wireRow op = some row) {cs : Text} (s : State)
    (hlen : cs.length = 2 * row.params) :
    takeParam op cs s = (unHexAll cs).elim ({ s with pos := .opcodeFirst }.emit nokText)
      fun ps => { s with pos := .handler (op :: ps) } := by
  simp only [takeParam, hrow, hlen, if_neg (lt_irrefl _)]
  cases unHexAll cs <;> rfl

/-- Settles O48: a character is kept until all `2 P` are there, and then every pair must be hex. -/
theorem parameterReading : Obligations.ParameterReading := by
  intro op c row cs rest s hrest hrow hpos hmore at_
  have reads : s.pos.Reads := hpos ▸ .params op cs
  have char (hhost : s.env.host = .char c :: rest) :
      ctxMove .a s = some (.next (takeParam op (cs ++ [c]) (at_ (.params op cs)))) := by
    rw [ctxMove_of_event hrest reads hhost]
    simp only [readEvent, hpos, at_]
  refine ⟨ctxMove_of_event hrest reads, fun hhost hlt => ?_, fun hhost hlast => ?_⟩
  · have hlen : (cs ++ [c]).length < 2 * row.params := by simpa using hlt
    rw [char hhost]
    simp only [takeParam, hrow, if_pos hlen, at_]
  · have hlen : (cs ++ [c]).length = 2 * row.params := by simpa using hlast
    rw [char hhost, takeParam_complete hrow _ hlen]
    refine ⟨fun hnone => ?_, fun ps hps hpairs => ?_⟩
    · rw [unHexAll_eq_none _ hnone]
      rfl
    · rw [unHexAll_of_pairs (by rw [hlen, hps]) hpairs]
      rfl

end Sys2Proof.Machine
end

section
/-! The handlers of the wire commands (43_host_commands.md R255 to R269): the outcome of the handler's rail operation, and
the response to it. -/

namespace Sys2Proof.Machine
open Sys2Proof.Claims

/-- A handler runs whole unless B owns the mutex (R255). -/
theorem runHandler_of_mutex {s : State} (h : s.mutex ≠ some .b) (body : State → State) :
    runHandler body s = .next (body s) := by
  refine runHandler_run ((State.mayTake_iff s .a).mpr ?_)
  match hm : s.mutex with
  | none => exact .inl rfl
  | some .a => exact .inr rfl
  | some .b => exact absurd hm h

/-! ### ENABLE and the reads (R256, R257, R259 to R261) -/

theorem exec_enable (r : Rail) (p1 : Byte) (s : State) :
    exec (.enable r p1) s = runHandler (fun s => (if decBool p1 then opRailOn r s else opRailOff r s).respond) s := rfl

theorem opRailOnOff_unconfigured {r : Rail} {s : State} (b : Bool)
    (h : ¬(s.enPin r ≠ .unassigned ∧ configured (s.reg r).cfg = true)) :
    (if b then opRailOn r s else opRailOff r s) = .fail s := by
  cases b <;> simp [opRailOn, opRailOff, State.railConfigured_eq_false_iff.mpr h]

/-- On a configured rail both write the enable: RAIL_ON for a true bool, RAIL_OFF for a false one (R162, R163, R257). -/
theorem opRailOnOff_configured {r : Rail} {s : State} (b : Bool)
    (h : s.enPin r ≠ .unassigned ∧ configured (s.reg r).cfg = true) :
    (if b then opRailOn r s else opRailOff r s) = .ret (s.setEnabled r b) (.bool true) := by
  cases b <;> simp [opRailOn, opRailOff, State.railConfigured_iff.mpr h]

/-- Settles O43: NOP and the reads only answer, and ENABLE answers for RAIL_ON or RAIL_OFF. -/
theorem enableAndReadHandlers : Obligations.EnableAndReadHandlers := by
  intro r p1 s hmutex ok floatText
  have answer (text : State → Text) : runHandler (fun s => s.emit (text s)) s = .next (s.emit (text s)) :=
    runHandler_of_mutex hmutex _
  rw [exec_enable, runHandler_of_mutex hmutex]
  refine ⟨answer fun _ => okText, fun hok => ?_, fun hok => ?_, answer fun s => okFloatText (s.reg r).measured,
    answer fun s => okFloatText (s.reg r).duty, answer fun s => okFloatText (s.reg r).cal⟩
  · rw [opRailOnOff_configured _ hok, OpOut.respond_true]
    rfl
  · rw [opRailOnOff_unconfigured _ hok, OpOut.respond_fail]
    rfl

/-! ### SET_V (R258) -/

theorem exec_setV (r : Rail) (p1 p2 : Byte) (s : State) :
    exec (.setV r p1 p2) s = runHandler (fun s => (opRegSetTarget r (decFloat p1 p2) s).respond) s := rfl

/-- The fraction of a wire value is finite and not negative (R99). -/
theorem f32Div_hundred_nonneg (f : Byte) :
    f32Finite (f32Div (f32OfNat f.toNat) f32_100) = true ∧ 0 ≤ f32Val (f32Div (f32OfNat f.toNat) f32_100) := by
  have hf := f.isLt
  obtain ⟨hfin, hmag⟩ := f32Mag_ofNat (n := f.toNat) (by omega)
  have hundred : f32Finite f32_100 = true ∧ f32Mag f32_100 = 100 * 2 ^ 149 ∧ f32Sign f32_100 = false := by decide
  obtain ⟨hfin100, hmag100, hsign100⟩ := hundred
  rw [f32Div_of_finite hfin hfin100 (by rw [hmag100]; decide), hmag, hmag100, hsign100, f32Sign_ofNat]
  refine ⟨(f32Round_error (k := 127) (by decide) (by decide) (by omega)).1, ?_⟩
  rw [f32Val_eq_withSign, f32Sign_round]
  exact Int.natCast_nonneg _

/-- A wire value is a sum of two values that are not negative (R99, R258). -/
theorem decFloat_nonneg (i f : Byte) : f32Ge (decFloat i f) f32_0 = true := by
  have hi := i.isLt
  obtain ⟨hwholefin, hwholemag⟩ := f32Mag_ofNat (n := i.toNat) (by omega)
  obtain ⟨hfracfin, hfrac⟩ := f32Div_hundred_nonneg f
  obtain ⟨hzerofin, hzero⟩ := f32_0_spec
  have hwhole : 0 ≤ f32Val (f32OfNat i.toNat) := by
    rw [f32Val_eq_withSign, f32Sign_ofNat]
    exact Int.natCast_nonneg _
  exact le_f32Add hwholefin hfracfin hzerofin hzero.ge (by rw [hzero]; exact add_nonneg hwhole hfrac)

/-- The clamp of R129 leaves a value alone that is not negative. -/
theorem opRegSetTarget_nonneg {r : Rail} {v : F32} {s : State} (h : f32Ge v f32_0 = true) :
    opRegSetTarget r v s =
      if f32Eq v (s.reg r).target = true then .ret s .nothing
      else .ret (s.setReg r { s.reg r with target := v }) .nothing := by
  obtain ⟨hzero, hnan, hle⟩ := f32Le_iff.mp h
  rw [opRegSetTarget_not_nan hnan, (f32Lt_false_iff hnan hzero).mpr hle]
  rfl

/-- Settles O44: the decoded value passes the clamp, so it is compared with the target and written as it is. -/
theorem setVHandler : Obligations.SetVHandler := by
  intro r p1 p2 s hmutex v
  have decoded : decFloat p1 p2 = v := rfl
  have nonneg : f32Ge v f32_0 = true := decFloat_nonneg p1 p2
  rw [exec_setV, runHandler_of_mutex hmutex, decoded, opRegSetTarget_nonneg nonneg]
  refine ⟨nonneg, fun heq => ?_, fun heq => ?_⟩
  · rw [if_pos heq, OpOut.respond_nothing]
  · rw [if_neg (Bool.eq_false_iff.mp heq), OpOut.respond_nothing]

/-! ### INIT_CAL and SAVE_CAL (R262, R263) -/

theorem exec_initCal (r : Rail) (s : State) :
    exec (.initCal r) s = runHandler (fun s => (opRailInitCal r (s.build.rail r).calReference s).respond) s := rfl

/-- The offset is zeroed first, and the target is set on that state (R166). -/
theorem opRailInitCal_not_nan {r : Rail} {ref : F32} {s : State} (hnan : f32IsNaN ref = false) :
    opRailInitCal r ref s = opRegSetTarget r ref (s.setReg r { s.reg r with cal := f32_0 }) :=
  if_neg (Bool.eq_false_iff.mp hnan)

/-- A handler's response in place of an internal operation's result: context A and `OUT` are all that differs (R255). -/
theorem State.emit_eq_setResult (s : State) (res : Result) (text : Text) :
    s.emit text = { s.setResult .a res with a := s.a, out := s.out ++ [text] } := rfl

@[simp] theorem State.ctx_calibrated (s : State) (r : Rail) (m : F32) (c : Ctx) :
    (s.calibrated r m).ctx c = s.ctx c := by
  simp [State.calibrated]

@[simp] theorem State.out_calibrated (s : State) (r : Rail) (m : F32) : (s.calibrated r m).out = s.out := by
  simp [State.calibrated]

/-- Settles O45: both answer for the rail operation, on the build's reference and on the decoded value. -/
theorem calibrationHandlers : Obligations.CalibrationHandlers := by
  intro r p1 p2 s hcan ref v g ok
  have hmutex : s.mutex ≠ some .b := by
    rcases hcan.2 with h | h <;> simp [h]
  have run := runHandler_of_mutex hmutex
  rw [exec_initCal, run, exec_saveCal, run, exec_railSaveCal, runShared_onlyA hcan]
  refine ⟨fun hnan => ?_, fun hnan heq => ?_, fun hnan heq => ?_, fun hok => ?_, fun hok hsize => ?_⟩
  · rw [opRailInitCal, if_pos hnan, OpOut.respond_refuse]
  · rw [opRailInitCal_not_nan hnan, opRegSetTarget_not_nan hnan, State.reg_setReg_self, if_pos heq,
      OpOut.respond_nothing]
  · rw [opRailInitCal_not_nan hnan, opRegSetTarget_not_nan hnan, State.reg_setReg_self,
      if_neg (Bool.eq_false_iff.mp heq), State.setReg_setReg, OpOut.respond_nothing]
  · rw [opRailSaveCal_unconfigured hok, OpOut.respond_fail]
  · rw [opRailSaveCal_configured hsize hok, OpOut.commit_ret, OpOut.respond_true]
    refine ⟨_, rfl, ?_, fun a ha => ?_⟩
    · have a_kept : ((s.calibrated r (decFloat p1 p2)).saveRecord r (f32Sub (decFloat p1 p2) (s.uncal r))).a = s.a :=
        (State.ctx_saveRecord _ _ _ .a).trans (s.ctx_calibrated _ _ .a)
      rw [State.emit_eq_setResult _ (.bool true), a_kept, State.out_saveRecord, State.out_calibrated]
    · rw [State.nvmByte, State.nvm_setResult, ← State.nvmByte,
        nvmByte_saveRecord_outside _ r _ a ha, State.nvmByte, State.nvm_calibrated, State.nvmByte]

/-! ### The switches (R264 to R269) -/

/-- A handler that answers for a written routing bit drives it (R32, R169). -/
theorem drivesBit_of_setRoute_emit {i : Instr} {k : RouteBit} {b : Bool} {s : State} {text : Text}
    (h : exec i s = .next ((s.setRoute k b).emit text)) : DrivesBit i s (routePosition s.build.routeBit k) b := by
  refine ⟨_, h, fun all => State.srOutput_eq_some.mpr ⟨⟨k, rfl⟩, allAt_iff.mp all⟩, fun n hn => ?_⟩
  exact State.srOutput_congr rfl fun k' hk' => Route.get_set_ne _ k k' b fun same => hn (same ▸ hk'.symm)

/-- Settles O46: the five routing switches answer for one operation on a bit, and the switch onto VPP for its own. -/
theorem switchHandlers : Obligations.SwitchHandlers := by
  intro p1 s hmutex p ok b nok write
  have unassigned (hok : ¬ok) (k : RouteBit) : runHandler (fun s => (opSetRoute k b s).respond) s = .next nok := by
    rw [runHandler_of_mutex hmutex, opSetRoute_unassigned (Bool.eq_false_iff.mpr (mt srAssigned_iff.mp hok)),
      OpOut.respond_fail]
  have assigned (hok : ok) (k : RouteBit) :
      runHandler (fun s => (opSetRoute k b s).respond) s = .next ((s.setRoute k b).emit okText) := by
    rw [runHandler_of_mutex hmutex, opSetRoute_assigned (srAssigned_iff.mpr hok), OpOut.respond_true]
  have onVpp : exec (.setVddOnVpp p1) s = .next (opSetOnVpp b s).respond :=
    runHandler_of_mutex hmutex fun s => (opSetOnVpp b s).respond
  refine ⟨fun hok => ?_, fun hok => ?_, fun hok => ?_, fun hpin => ?_, fun hpin => ?_⟩
  · have h := unassigned hok
    exact ⟨h .a9, h .a18, h .ce, h .oe, h .we⟩
  · have h := assigned hok
    exact ⟨h .a9, h .a18, h .ce, h .oe, h .we⟩
  · have drives (k : RouteBit) (i : Instr) (hi : exec i s = runHandler (fun s => (opSetRoute k b s).respond) s) :
        DrivesBit i s (routePosition s.build.routeBit k) b := drivesBit_of_setRoute_emit (hi.trans (assigned hok k))
    exact ⟨drives .a9 _ rfl, drives .a18 _ rfl, drives .ce _ rfl, drives .oe _ rfl, drives .we _ rfl⟩
  · rw [onVpp, opSetOnVpp, if_pos hpin, OpOut.respond_fail]
  · rw [onVpp, opSetOnVpp, if_neg hpin, OpOut.respond_true]

end Sys2Proof.Machine
end

section
/-! An operation of a context that may not issue it (60_exceptions.md R306): the refusal comes before the mutex and before
the operation's body, and is all that happens (R305 (a)). -/

namespace Sys2Proof.Machine

section
variable {i : Instr} {s : State} (h : (ctxAllowed i).admits s.issuer = false)
include h

theorem exec_not_admitted_of_runShared {body : State → OpOut}
    (hexec : ∀ s, exec i s = runShared (ctxAllowed i) body s) : exec i s = .next (s.refuse .contextViolation) := by
  simp [hexec, runShared, h]

theorem exec_not_admitted_of_runFree {body : State → Ctx → State}
    (hexec : ∀ s, exec i s = runFree (ctxAllowed i) body s) : exec i s = .next (s.refuse .contextViolation) := by
  simp [hexec, runFree, h]

end

/-- Every internal operation asks for its context first; a handler asks for none, being context A's own (R255). -/
theorem exec_not_admitted {is : Issue} {i : Instr} {s : State} (henc : encode i = .internal is)
    (h : (ctxAllowed i).admits s.issuer = false) : exec i s = .next (s.refuse .contextViolation) := by
  cases i with
  | nop | enable | setV | getV | getDuty | getCal | initCal | saveCal | setA9 | setA18 | setCe | setOe | setWe
  | setVddOnVpp => cases henc
  | regConfigure | regStart | regStop | regSetTarget | regAdjust | regGetCal | regSetCal | regGetTarget | regGetV
  | regGetDuty | regIsRunning | railConfigure | railOn | railOff | railIsOn | railToggle | railInitCal | railSaveCal
  | railLoadCal | vppSetA9 | vppSetA18 | vppSetCe | vppSetOe | vppSetWe | vddSetOnVpp | railsStart | railsStop
  | railsIsRunning => exact exec_not_admitted_of_runShared h fun _ => rfl
  | seqLaunch | seqStop => exact exec_not_admitted_of_runFree h fun _ => rfl
  | seqIsStopRequested | seqGetStatus | seqLock | seqUnlock | seqPutParam | seqGetParam =>
    cases (Allowed.both_admits s.issuer).symm.trans h

/-- Settles O42: what is neither REG_ADJUST nor one of the six operations of both contexts is context A's alone. -/
theorem foreignContextRefused : Obligations.ForeignContextRefused := by
  refine ⟨fun r s => exec_regAdjust_contextA, ?_⟩
  intro is i s hdec hissuer hadjust hput hstop hstatus hlock hunlock hget
  have onlyA : ctxAllowed i = .onlyA := by
    cases i with
    | regAdjust r => exact absurd rfl (hadjust r)
    | seqPutParam w => exact absurd rfl (hput w)
    | seqIsStopRequested => exact absurd rfl hstop
    | seqGetStatus => exact absurd rfl hstatus
    | seqLock => exact absurd rfl hlock
    | seqUnlock => exact absurd rfl hunlock
    | seqGetParam => exact absurd rfl hget
    | _ => rfl
  have foreign : (ctxAllowed i).admits s.issuer = false := by
    rw [onlyA, hissuer]
    rfl
  exact exec_not_admitted (encode_of_decodeInternal hdec).1 foreign

end Sys2Proof.Machine
end

section
/-! One step when the next mover is listed (60_exceptions.md R305 (d)): of context B in a phase that needs no mutex
(42_sequencer.md R220 to R226), and of context A in a blocking operation that can complete (R215 to R219). -/

namespace Sys2Proof.Machine
open Sys2Proof.Claims

theorem nextMove_of_sched {s : State} {m : Move} {later : List Move} (h : s.env.sched = m :: later) :
    s.nextMove = m := by
  simp [State.nextMove, h]

theorem sched_popMove {s : State} {m : Move} {later : List Move} (h : s.env.sched = m :: later) :
    s.popMove.env.sched = later := by
  simp [h]

/-- The phases in which B's step needs no mutex and only moves its position on (R220, R221, R223, R225, R226). -/
def Phase.Advances (p : Phase) : Prop := p ≠ .idle ∧ p ≠ .adjVdd ∧ p ≠ .adjVpp

theorem ctxMove_of_advances {s : State} (hrest : AtRest .b s) (hphase : s.seq.phase.Advances) :
    ctxMove .b s = some (.next s.advance) := by
  obtain ⟨hidle, hvdd, hvpp⟩ := hphase
  rw [ctxMove_b_of_atRest hrest, loopMove_of_no_adjust hidle hvdd hvpp]

theorem step_of_advances {s : State} {q : Seq} (hmove : s.nextMove = .b) (hrest : AtRest .b s)
    (hphase : s.seq.phase.Advances) (hq : s.seq.advance = q) : step s = .next { s.popMove with seq := q } := by
  rw [← hq]
  exact step_of_ctxMove (c := .b) hmove (ctxMove_of_advances (s := s.popMove) hrest hphase)

/-- The step of A in a blocking operation that can complete (R215 to R219). -/
theorem step_of_completeWait {s t : State} (hmove : s.nextMove = .a) (hstuck : s.a.stuck = false)
    (hwait : s.a.wait ≠ .none) (hdone : completeWait s.popMove .a = some t) : step s = .next t := by
  have hcomplete : ctxMove .a s.popMove = (completeWait s.popMove .a).map .next :=
    ctxMove_of_wait (c := .a) (s := s.popMove) hstuck rfl hwait
  exact step_of_ctxMove (c := .a) hmove (hcomplete.trans (congrArg (Option.map _) hdone))

end Sys2Proof.Machine
end

section
/-! A stop held by context A under its own mutex (70_reset_and_hazards.md R346): at an adjust step of B neither context
can move again and the next step is the deadlock (log 3); where B needs no mutex to its exit the stop completes. -/

namespace Sys2Proof.Machine
open Sys2Proof.Claims

/-- A holds in its stop and owns the mutex, and B is at rest (R346). -/
structure StopsUnderMutex (s : State) : Prop where
  waits : s.a.wait = .stop
  owns : s.mutex = some .a
  stopping : s.seq.status = .stopping
  rest : AtRest .b s

/-- After `n` steps A's stop is over, the sequencer `Stopped` and the mutex still A's (R212, R215). -/
def CompletesIn (n : Nat) (s : State) : Prop :=
  ∃ t, Reaches n s t ∧ t.seq = ⟨.stopped, .idle⟩ ∧ t.a.wait = .none ∧ t.mutex = some .a

theorem CompletesIn.of_step {n : Nat} {s u : State} (hstep : step s = .next u) (h : CompletesIn n u) :
    CompletesIn (n + 1) s := by
  obtain ⟨t, reaches, result⟩ := h
  exact ⟨t, reaches.of_step hstep, result⟩

namespace StopsUnderMutex
variable {s : State} (h : StopsUnderMutex s)
include h

theorem popMove : StopsUnderMutex s.popMove := ⟨h.waits, h.owns, h.stopping, h.rest⟩

/-- A move of B that leaves the status `Stopping` leaves A in its stop. -/
theorem atPhase (p : Phase) : StopsUnderMutex { s.popMove with seq := ⟨.stopping, p⟩ } :=
  ⟨h.waits, h.owns, rfl, h.rest⟩

/-- A's stop has not reached its condition, so A has no step, stuck or not (R212). -/
theorem ctxMove_a : ctxMove .a s = none := by
  cases hstuck : s.a.stuck with
  | true => exact ctxMove_of_stuck hstuck
  | false =>
    rw [ctxMove_of_wait (c := .a) hstuck h.waits nofun, completeWait_stop (c := .a) h.waits, h.stopping]
    rfl

theorem not_awaitsHost : s.awaitsHost = false := by
  simp [State.awaitsHost, h.waits]

/-- At an adjust step B needs the mutex, which A owns (R346). -/
theorem ctxMove_b (hphase : s.seq.phase = .adjVdd ∨ s.seq.phase = .adjVpp) : ctxMove .b s = none := by
  rw [ctxMove_b_of_atRest h.rest]
  rcases hphase with hphase | hphase
  · rw [loopMove_adjVdd hphase, adjustMove_of_a h.owns]
  · rw [loopMove_adjVpp hphase, adjustMove_of_a h.owns]

theorem deadlocks (hphase : s.seq.phase = .adjVdd ∨ s.seq.phase = .adjVpp) (hmove : s.nextMove ≠ .reset) :
    step s = .fault .deadlock := by
  have ha : ctxMove .a s.popMove = none := h.popMove.ctxMove_a
  have hb : ctxMove .b s.popMove = none := h.popMove.ctxMove_b hphase
  have hdead : s.popMove.deadlocked = true := by
    simp [State.deadlocked, ha, hb, h.popMove.not_awaitsHost]
  rw [step_eq]
  cases hnext : s.nextMove with
  | a => simp [ctxTurn, ha, hdead]
  | b => simp [ctxTurn, hb, hdead]
  | reset => exact absurd hnext hmove

/-- While B can still move, A's turn moves nothing (log 3). -/
theorem idles (hmove : s.nextMove = .a) (hphase : s.seq.phase.Advances) : step s = .next s.popMove := by
  have ha : ctxMove .a s.popMove = none := h.popMove.ctxMove_a
  have halive : s.popMove.deadlocked = false := by
    simp [State.deadlocked, ctxMove_of_advances (s := s.popMove) h.rest hphase]
  rw [step_eq, hmove]
  simp [ctxTurn, ha, halive]

/-- From its exit B goes to `Idle`, and A's stop completes, the mutex still A's (R226, R215). -/
theorem completes_from_exit {later : List Move} (hstuck : s.a.stuck = false) (hphase : s.seq.phase = .exit)
    (hsched : s.env.sched = .b :: .a :: later) : CompletesIn 2 s := by
  have toIdle : step s = .next { s.popMove with seq := ⟨.stopped, .idle⟩ } :=
    step_of_advances (nextMove_of_sched hsched) h.rest (by simp [hphase, Phase.Advances])
      (by simp [Seq.advance, hphase])
  have completed : step { s.popMove with seq := ⟨.stopped, .idle⟩ } = .next _ :=
    step_of_completeWait (nextMove_of_sched (sched_popMove hsched)) hstuck (h.waits.trans_ne nofun)
      (completeWait_stop (c := .a) h.waits)
  exact ⟨_, .of_step toIdle (.of_step completed (.refl _)), rfl, rfl, h.owns⟩

theorem completes_from_check {later : List Move} (hstuck : s.a.stuck = false) (hphase : s.seq.phase = .check)
    (hsched : s.env.sched = .b :: .b :: .a :: later) : CompletesIn 3 s := by
  have toExit : s.seq.advance = ⟨.stopping, .exit⟩ := by simp [Seq.advance, hphase, h.stopping]
  exact .of_step (step_of_advances (nextMove_of_sched hsched) h.rest (by simp [hphase, Phase.Advances]) toExit)
    ((h.atPhase .exit).completes_from_exit hstuck rfl (sched_popMove hsched))

theorem completes_from_sleep2 {later : List Move} (hstuck : s.a.stuck = false) (hphase : s.seq.phase = .sleep2)
    (hsched : s.env.sched = .b :: .b :: .b :: .a :: later) : CompletesIn 4 s := by
  have toCheck : s.seq.advance = ⟨.stopping, .check⟩ := by simp [Seq.advance, hphase, h.stopping]
  exact .of_step (step_of_advances (nextMove_of_sched hsched) h.rest (by simp [hphase, Phase.Advances]) toCheck)
    ((h.atPhase .check).completes_from_check hstuck rfl (sched_popMove hsched))

end StopsUnderMutex

/-- Settles O40: A's stop waits for B, and B waits for A's mutex only at its two adjust steps. -/
theorem stopUnderOwnMutexDeadlocks : Obligations.StopUnderOwnMutexDeadlocks := by
  intro s hwait hmutex hstatus hrest
  have h : StopsUnderMutex s := ⟨hwait, hmutex, hstatus, hrest⟩
  refine ⟨h.deadlocks, fun hphase => ?_, fun later => h.completes_from_check, fun later => h.completes_from_sleep2⟩
  have advances : s.seq.phase.Advances := by simp [hphase, Phase.Advances]
  have sleeps : s.seq.advance = ⟨.stopping, .adjVpp⟩ := by simp [Seq.advance, hphase, hstatus]
  exact ⟨fun hmove => h.idles hmove advances,
    fun hmove => ⟨_, step_of_advances hmove hrest advances sleeps, rfl, (h.atPhase .adjVpp).deadlocks (.inr rfl)⟩⟩

end Sys2Proof.Machine
end

section
/-! The boot sequence of a sound build (70_reset_and_hazards.md R335 to R339): what each of its six operations leaves,
and the run from the reset to the end of boot. -/

namespace Sys2Proof.Machine
open Sys2Proof.Claims

/-! ### The operations of the boot sequence (R161, R180) -/

/-- A rail whose regulator does not run takes a well-formed configuration with a pin the other rail has not (R161). -/
theorem exec_railConfigure_stopped {r : Rail} {rc : RailConfig} {s : State} (hcan : CanRun .a s)
    (hwf : cfgWF rc.reg = true) (hpin : rc.reg.pin ≠ (s.reg r.other).cfg.pin) (hstopped : (s.reg r).running = false) :
    exec (.railConfigure r rc) s =
      .next (((s.setReg r { s.reg r with cfg := rc.reg }).applyRailConfig r rc).setResult .a .nothing) := by
  have accepted := opRegConfigure_accepted (s := s) hwf fun shared => hpin shared.2
  rw [if_neg (by simp [hstopped])] at accepted
  have hexec : exec (.railConfigure r rc) s = .next ((opRailConfigure r rc s).commit .a) := runShared_onlyA hcan
  rw [hexec, opRailConfigure, accepted, OpOut.bind_ret, OpOut.commit_ret]

/-- The regulator of `r` running at its minimum duty, its output armed (R127). -/
def State.started (s : State) (r : Rail) : State :=
  (s.setPwm r ⟨(s.reg r).cfg.pin, (s.reg r).cfg.freq, (s.reg r).cfg.minDuty, true⟩).setReg r
    { s.reg r with duty := (s.reg r).cfg.minDuty, running := true }

/-- With both regulators configured the container starts both (R180). -/
theorem exec_railsStart_configured {s : State} (hcan : CanRun .a s) (hconf : ∀ r, configured (s.reg r).cfg = true) :
    exec .railsStart s = .next (((s.started .vdd).started .vpp).setResult .a (.bool true)) := by
  have hvdd : opRegStart .vdd s = .ret (s.started .vdd) (.bool true) := opRegStart_configured (hconf .vdd)
  have hvpp : opRegStart .vpp (s.started .vdd) = .ret ((s.started .vdd).started .vpp) (.bool true) :=
    opRegStart_configured (hconf .vpp)
  have hexec : exec .railsStart s = .next ((opBothRails opRegStart s).commit .a) := runShared_onlyA hcan
  rw [hexec, opBothRails, hvdd, OpOut.bind_ret, hvpp]
  rfl

/-- Rail `r` configured as the build has it, from a regulator that does not run (R161). -/
def State.bootConfigured (s : State) (r : Rail) : State :=
  ((s.setReg r { s.reg r with cfg := bootReg s.build r }).applyRailConfig r (bootRail s.build r)).setResult .a .nothing

/-- The offset register of `r` loaded from its record (R168). -/
def State.offsetLoaded (s : State) (r : Rail) : State :=
  (s.setReg r { s.reg r with cal := s.loadRecord r }).setResult .a (.bool (s.recordValid r))

/-! ### The steps of the boot sequence (R335) -/

/-- The state on which boot step `k` runs its operation: the move is used, and A's position is past the step. -/
def State.bootTurn (s : State) (k : BootStep) : State := { s.popMove with pos := afterBoot k, issuer := .a }

/-- What a boot step's operation leaves of the state it runs on, in a sound build (R161, R168, R180, R211). -/
def BootStep.result (s : State) : BootStep → State
  | .configureVdd => s.bootConfigured .vdd
  | .configureVpp => s.bootConfigured .vpp
  | .loadVdd => s.offsetLoaded .vdd
  | .loadVpp => s.offsetLoaded .vpp
  | .start => ((s.started .vdd).started .vpp).setResult .a (.bool true)
  | .launch => { s with seq := ⟨.starting, .entry⟩, fifoAtoB := none, fifoBtoA := none }.setWait .a .launch

/-- What a boot step's operation must find: the two configurations and the start then neither refuse nor fail, and the
launch launches (R161, R180, R211). -/
def BootStep.Accepts (s : State) : BootStep → Prop
  | .configureVdd => s.regVdd.running = false ∧ s.regVpp.cfg.pin = .unassigned
  | .configureVpp => s.regVpp.running = false ∧ s.regVdd.cfg.pin = s.build.vdd.pwmPin
  | .loadVdd | .loadVpp => True
  | .start => configured s.regVdd.cfg = true ∧ configured s.regVpp.cfg = true
  | .launch => s.seq.status = .stopped

/-- A is next to take boot step `k`, with the mutex free, and its operation will be accepted. -/
structure AtBootStep (k : BootStep) (s : State) : Prop where
  move : s.nextMove = .a
  rest : AtRest .a s
  pos : s.pos = .boot k
  free : s.mutex = none
  accepts : k.Accepts s

/-- The state after boot step `k` of a sound build. -/
def State.afterBootStep (s : State) (k : BootStep) : State := k.result (s.bootTurn k)

/-- The calibration records of a sound build lie in its storage (R66, R11). -/
theorem Build.Sound.nvmSize {b : Build} (h : Build.Sound b) : 13 ≤ b.nvmSize := by
  obtain ⟨hwf, -⟩ := h
  simp only [Build.wf, Bool.and_eq_true, decide_eq_true_eq] at hwf
  exact hwf.2

/-- A boot step of a sound build ends as its operation's accepted case says. -/
theorem AtBootStep.step_eq {k : BootStep} {s : State} (h : AtBootStep k s) (hsound : Build.Sound s.build) :
    step s = .next (s.afterBootStep k) := by
  have hsize := hsound.nvmSize
  obtain ⟨-, hwf, hconf, -, hpins⟩ := hsound
  obtain ⟨hmove, hrest, hpos, hfree, haccepts⟩ := h
  have hcan : CanRun .a (s.bootTurn k) := ⟨rfl, .inl hfree⟩
  have hstep : step s = exec (bootInstr s.build k) (s.bootTurn k) :=
    stepRunsDecodedOperation.2.2 k s hmove hrest hpos (by simp [hfree])
  rw [hstep]
  cases k with
  | configureVdd =>
    obtain ⟨stopped, unassigned⟩ := haccepts
    have other : s.build.vdd.pwmPin ≠ s.regVpp.cfg.pin := unassigned ▸ (configured_iff.mp (hconf .vdd)).1
    exact exec_railConfigure_stopped hcan (hwf .vdd) other stopped
  | configureVpp =>
    obtain ⟨stopped, vddPin⟩ := haccepts
    have other : s.build.vpp.pwmPin ≠ s.regVdd.cfg.pin := vddPin ▸ hpins.symm
    exact exec_railConfigure_stopped hcan (hwf .vpp) other stopped
  | loadVdd => exact exec_railLoadCal_inRange hcan hsize
  | loadVpp => exact exec_railLoadCal_inRange hcan hsize
  | start =>
    obtain ⟨vdd, vpp⟩ := haccepts
    exact exec_railsStart_configured hcan fun | .vdd => vdd | .vpp => vpp
  | launch => exact (exec_seqLaunch rfl).trans (congrArg _ (opSeqLaunch_stopped (s := s.bootTurn .launch) haccepts .a))

/-! ### The run (R335) -/

/-- The state after the six boot steps of a sound build. -/
def State.afterBootSteps (s : State) : State :=
  (((((s.afterBootStep .configureVdd).afterBootStep .configureVpp).afterBootStep .loadVdd).afterBootStep
    .loadVpp).afterBootStep .start).afterBootStep .launch

/-- The state after B's entry (R220). -/
def State.entered (s : State) : State := { s.popMove with seq := ⟨.running, .check⟩ }

/-- The state after boot: the six boot steps, B's entry and the completion of A's launch (R215, R335). -/
def State.bootEnd (s : State) : State := s.afterBootSteps.entered.popMove.finish .a .nothing

/-- The eight moves of a sound build's boot, each step finding what the ones before it left (R335). -/
theorem reaches_bootEnd {b : Build} (hsound : Build.Sound b) (nvm : List Host.Cell) (env : Env) (later : List Move)
    (hsched : env.sched = [.a, .a, .a, .a, .a, .a, .b, .a] ++ later) :
    Reaches 8 (State.resetOf b nvm env) (State.resetOf b nvm env).bootEnd := by
  have ⟨_, _, hconf, _⟩ := hsound
  obtain ⟨host, sched, tick, adc, adcTick⟩ := env
  obtain rfl : sched = _ := hsched
  refine .of_step (AtBootStep.step_eq (k := .configureVdd) ⟨rfl, ⟨rfl, rfl, rfl⟩, rfl, rfl, rfl, rfl⟩ hsound) ?_
  refine .of_step (AtBootStep.step_eq (k := .configureVpp) ⟨rfl, ⟨rfl, rfl, rfl⟩, rfl, rfl, rfl, rfl⟩ hsound) ?_
  refine .of_step (AtBootStep.step_eq (k := .loadVdd) ⟨rfl, ⟨rfl, rfl, rfl⟩, rfl, rfl, trivial⟩ hsound) ?_
  refine .of_step (AtBootStep.step_eq (k := .loadVpp) ⟨rfl, ⟨rfl, rfl, rfl⟩, rfl, rfl, trivial⟩ hsound) ?_
  refine .of_step (AtBootStep.step_eq (k := .start) ⟨rfl, ⟨rfl, rfl, rfl⟩, rfl, rfl, hconf .vdd, hconf .vpp⟩ hsound) ?_
  refine .of_step (AtBootStep.step_eq (k := .launch) ⟨rfl, ⟨rfl, rfl, rfl⟩, rfl, rfl, rfl⟩ hsound) ?_
  refine .of_step (step_of_advances (q := ⟨.running, .check⟩) rfl ⟨rfl, rfl, rfl⟩ ⟨nofun, nofun, nofun⟩ rfl) ?_
  exact .of_step (step_of_completeWait rfl rfl nofun rfl) (.refl _)

/-- Settles O54: the run is the eight steps of `reaches_bootEnd`, and `bootEnd` has the fields of R336. -/
theorem stateAfterBoot : Obligations.StateAfterBoot := by
  intro b nvm env later hsound hsched s
  have reaches : Reaches 8 s s.bootEnd := reaches_bootEnd hsound nvm env later hsched
  have ended : BootEnded s.bootEnd := ⟨nofun, nofun⟩
  refine ⟨s.bootEnd, reaches, fun r => ?_, rfl, rfl, rfl, rfl, rfl, rfl, rfl, rfl, rfl, rfl, rfl,
    ⟨s, 8, ⟨b, nvm, env, rfl⟩, reaches, ended⟩, fun hhost => ⟨rfl, rfl, hhost, rfl, rfl, .inr rfl⟩⟩
  cases r with
  | vdd | vpp => exact ⟨rfl, rfl, rfl, rfl, rfl, rfl, rfl, rfl, rfl⟩

end Sys2Proof.Machine
end
